-- ==== Sys2Proof/Word.lean ====
section
/-! DEFINITION. The two word types of the block (spec/00_scope.md R8, R9): u8 and u16. -/

namespace Sys2Proof

/-- `u8`: a register, a memory byte, an opcode or operand byte (R8, R9). -/
abbrev Byte := BitVec 8

/-- `u16`: the program counter and an address (R8, R9). -/
abbrev Word := BitVec 16

end Sys2Proof
end

