-- ==== Sys2Proof/Config.lean ====
section
/-! DEFINITION. What construction fixes for the life of the core (spec/00_scope.md R3, R8): the variant.
The spec leaves no value of an instruction undefined, so there is no free value here. -/

namespace Sys2Proof

/-- The construction-time parameter `MODEL` (R3, R6). The variants differ only in the page wrap of JMP indirect
(spec/45_control.md R233). -/
inductive Model where
  | original
  | with65C02Fixes
  deriving DecidableEq, Repr

end Sys2Proof
end

