-- ==== Sys2Proof/Syntax.lean ====
section
/-! DEFINITION. The instruction set as syntax: the addressing modes (spec/30_encoding.md R86), the mnemonics
(spec/00_scope.md R4), the branch conditions (spec/45_control.md R220), and `Instr`, one constructor per row of
spec/opcode_table.json. A two-byte instruction carries its operand byte (a branch its offset), a three-byte one
the 16-bit operand that R87 assembles. -/

namespace Sys2Proof

/-- The 13 addressing modes (R86). -/
inductive Mode where
  | implied | accumulator | immediate
  | zeroPage | zeroPageX | zeroPageY
  | absolute | absoluteX | absoluteY
  | indirectX | indirectY | indirect | relative
  deriving DecidableEq, Repr

/-- The 56 mnemonics (R4). -/
inductive Mnemonic where
  | lda | ldx | ldy | sta | stx | sty
  | tax | tay | txa | tya | tsx | txs | pha | php | pla | plp
  | and | ora | eor | bit
  | adc | sbc | cmp | cpx | cpy
  | asl | lsr | rol | ror
  | inc | dec | inx | dex | iny | dey
  | bpl | bmi | bvc | bvs | bcc | bcs | bne | beq
  | jmp | jsr | rts | brk | rti
  | clc | sec | cli | sei | clv | cld | sed | nop
  deriving DecidableEq, Repr

/-- The eight branch conditions (R220): plus, minus, overflow clear and set, carry clear and set, not equal, equal. -/
inductive Cond where
  | pl | mi | vc | vs | cc | cs | ne | eq
  deriving DecidableEq, Repr

/-- One constructor per row of spec/opcode_table.json (151 rows). The suffix names the addressing mode: `Imm`, `Zp`,
`ZpX`, `ZpY`, `Abs`, `AbsX`, `AbsY`, `IndX` for (Indirect,X), `IndY` for (Indirect),Y, `Ind` for Indirect, `A` for
Accumulator; a mnemonic with one mode has no suffix. -/
inductive Instr where
  -- LDA LDX LDY STA STX STY
  | ldaImm (op0 : Byte)
  | ldaZp (op0 : Byte)
  | ldaZpX (op0 : Byte)
  | ldaAbs (addr : Word)
  | ldaAbsX (addr : Word)
  | ldaAbsY (addr : Word)
  | ldaIndX (op0 : Byte)
  | ldaIndY (op0 : Byte)
  | ldxImm (op0 : Byte)
  | ldxZp (op0 : Byte)
  | ldxZpY (op0 : Byte)
  | ldxAbs (addr : Word)
  | ldxAbsY (addr : Word)
  | ldyImm (op0 : Byte)
  | ldyZp (op0 : Byte)
  | ldyZpX (op0 : Byte)
  | ldyAbs (addr : Word)
  | ldyAbsX (addr : Word)
  | staZp (op0 : Byte)
  | staZpX (op0 : Byte)
  | staAbs (addr : Word)
  | staAbsX (addr : Word)
  | staAbsY (addr : Word)
  | staIndX (op0 : Byte)
  | staIndY (op0 : Byte)
  | stxZp (op0 : Byte)
  | stxZpY (op0 : Byte)
  | stxAbs (addr : Word)
  | styZp (op0 : Byte)
  | styZpX (op0 : Byte)
  | styAbs (addr : Word)
  -- TAX TAY TXA TYA TSX TXS PHA PHP PLA PLP
  | tax
  | tay
  | txa
  | tya
  | tsx
  | txs
  | pha
  | php
  | pla
  | plp
  -- AND ORA EOR BIT
  | andImm (op0 : Byte)
  | andZp (op0 : Byte)
  | andZpX (op0 : Byte)
  | andAbs (addr : Word)
  | andAbsX (addr : Word)
  | andAbsY (addr : Word)
  | andIndX (op0 : Byte)
  | andIndY (op0 : Byte)
  | oraImm (op0 : Byte)
  | oraZp (op0 : Byte)
  | oraZpX (op0 : Byte)
  | oraAbs (addr : Word)
  | oraAbsX (addr : Word)
  | oraAbsY (addr : Word)
  | oraIndX (op0 : Byte)
  | oraIndY (op0 : Byte)
  | eorImm (op0 : Byte)
  | eorZp (op0 : Byte)
  | eorZpX (op0 : Byte)
  | eorAbs (addr : Word)
  | eorAbsX (addr : Word)
  | eorAbsY (addr : Word)
  | eorIndX (op0 : Byte)
  | eorIndY (op0 : Byte)
  | bitZp (op0 : Byte)
  | bitAbs (addr : Word)
  -- ADC SBC CMP CPX CPY
  | adcImm (op0 : Byte)
  | adcZp (op0 : Byte)
  | adcZpX (op0 : Byte)
  | adcAbs (addr : Word)
  | adcAbsX (addr : Word)
  | adcAbsY (addr : Word)
  | adcIndX (op0 : Byte)
  | adcIndY (op0 : Byte)
  | sbcImm (op0 : Byte)
  | sbcZp (op0 : Byte)
  | sbcZpX (op0 : Byte)
  | sbcAbs (addr : Word)
  | sbcAbsX (addr : Word)
  | sbcAbsY (addr : Word)
  | sbcIndX (op0 : Byte)
  | sbcIndY (op0 : Byte)
  | cmpImm (op0 : Byte)
  | cmpZp (op0 : Byte)
  | cmpZpX (op0 : Byte)
  | cmpAbs (addr : Word)
  | cmpAbsX (addr : Word)
  | cmpAbsY (addr : Word)
  | cmpIndX (op0 : Byte)
  | cmpIndY (op0 : Byte)
  | cpxImm (op0 : Byte)
  | cpxZp (op0 : Byte)
  | cpxAbs (addr : Word)
  | cpyImm (op0 : Byte)
  | cpyZp (op0 : Byte)
  | cpyAbs (addr : Word)
  -- ASL LSR ROL ROR
  | aslA
  | aslZp (op0 : Byte)
  | aslZpX (op0 : Byte)
  | aslAbs (addr : Word)
  | aslAbsX (addr : Word)
  | lsrA
  | lsrZp (op0 : Byte)
  | lsrZpX (op0 : Byte)
  | lsrAbs (addr : Word)
  | lsrAbsX (addr : Word)
  | rolA
  | rolZp (op0 : Byte)
  | rolZpX (op0 : Byte)
  | rolAbs (addr : Word)
  | rolAbsX (addr : Word)
  | rorA
  | rorZp (op0 : Byte)
  | rorZpX (op0 : Byte)
  | rorAbs (addr : Word)
  | rorAbsX (addr : Word)
  -- INC DEC INX DEX INY DEY
  | incZp (op0 : Byte)
  | incZpX (op0 : Byte)
  | incAbs (addr : Word)
  | incAbsX (addr : Word)
  | decZp (op0 : Byte)
  | decZpX (op0 : Byte)
  | decAbs (addr : Word)
  | decAbsX (addr : Word)
  | inx
  | dex
  | iny
  | dey
  -- BPL BMI BVC BVS BCC BCS BNE BEQ
  | bpl (off : Byte)
  | bmi (off : Byte)
  | bvc (off : Byte)
  | bvs (off : Byte)
  | bcc (off : Byte)
  | bcs (off : Byte)
  | bne (off : Byte)
  | beq (off : Byte)
  -- JMP JSR RTS BRK RTI
  | jmpAbs (addr : Word)
  | jmpInd (addr : Word)
  | jsr (addr : Word)
  | rts
  | brk
  | rti
  -- CLC SEC CLI SEI CLV CLD SED NOP
  | clc
  | sec
  | cli
  | sei
  | clv
  | cld
  | sed
  | nop
  deriving DecidableEq, Repr

end Sys2Proof
end

