-- ==== Sys2Proof/WellFormed.lean ====
section
/-! DEFINITION. When the bytes of an instruction are well formed: its opcode byte is one of the 151 valid values, and
as many operand bytes follow as its size says (spec/30_encoding.md R85, R88, R92). Every value of an operand byte is
legal (R94), so every term of `Instr` is a well-formed instruction and needs no check of its own. -/

namespace Sys2Proof

/-- `size` of each opcode value (R88), row by row as R90 lays the values out; 0 is one of the 105 invalid values
(R92). -/
def sizeMatrix : List (List Nat) := [
  [1, 2, 0, 0, 0, 2, 2, 0, 1, 2, 1, 0, 0, 3, 3, 0],
  [2, 2, 0, 0, 0, 2, 2, 0, 1, 3, 0, 0, 0, 3, 3, 0],
  [3, 2, 0, 0, 2, 2, 2, 0, 1, 2, 1, 0, 3, 3, 3, 0],
  [2, 2, 0, 0, 0, 2, 2, 0, 1, 3, 0, 0, 0, 3, 3, 0],
  [1, 2, 0, 0, 0, 2, 2, 0, 1, 2, 1, 0, 3, 3, 3, 0],
  [2, 2, 0, 0, 0, 2, 2, 0, 1, 3, 0, 0, 0, 3, 3, 0],
  [1, 2, 0, 0, 0, 2, 2, 0, 1, 2, 1, 0, 3, 3, 3, 0],
  [2, 2, 0, 0, 0, 2, 2, 0, 1, 3, 0, 0, 0, 3, 3, 0],
  [0, 2, 0, 0, 2, 2, 2, 0, 1, 0, 1, 0, 3, 3, 3, 0],
  [2, 2, 0, 0, 2, 2, 2, 0, 1, 3, 1, 0, 0, 3, 0, 0],
  [2, 2, 2, 0, 2, 2, 2, 0, 1, 2, 1, 0, 3, 3, 3, 0],
  [2, 2, 0, 0, 2, 2, 2, 0, 1, 3, 1, 0, 3, 3, 3, 0],
  [2, 2, 0, 0, 2, 2, 2, 0, 1, 2, 1, 0, 3, 3, 3, 0],
  [2, 2, 0, 0, 0, 2, 2, 0, 1, 3, 0, 0, 0, 3, 3, 0],
  [2, 2, 0, 0, 2, 2, 2, 0, 1, 2, 1, 0, 3, 3, 3, 0],
  [2, 2, 0, 0, 0, 2, 2, 0, 1, 3, 0, 0, 0, 3, 3, 0]]

/-- `size(opcode)` (R88, R92). -/
def opcodeSize (opcode : Byte) : Nat :=
  (sizeMatrix.getD (opcode.toNat / 16) []).getD (opcode.toNat % 16) 0

/-- The bytes of one whole instruction and nothing else. -/
def wellFormed : List Byte → Bool
  | [] => false
  | opcode :: operands => opcodeSize opcode != 0 && operands.length + 1 == opcodeSize opcode

end Sys2Proof
end

