-- ==== Sys2Proof/Decode.lean ====
section
/-! DEFINITION. The 256-slot opcode matrix (spec/30_encoding.md R89, R90), the decoder, total on any bytes, and after
it the encoder, written from the per-instruction encodings (R85, R87 and the Encoding lines of spec/41 to spec/46). -/

namespace Sys2Proof

/-- `lo | hi << 8` (spec/00_scope.md R9, spec/20_memory.md R61). -/
def combine (lo hi : Byte) : Word := hi ++ lo

/-- The byte that lies at the lower address (R61). -/
def lowByte (w : Word) : Byte := w.extractLsb' 0 8

/-- The byte that lies at the higher address (R61). -/
def highByte (w : Word) : Byte := w.extractLsb' 8 8

/-- `size` as a property of the mode (R86, R88). -/
def Mode.size : Mode → Nat
  | .implied | .accumulator => 1
  | .immediate | .zeroPage | .zeroPageX | .zeroPageY | .indirectX | .indirectY | .relative => 2
  | .absolute | .absoluteX | .absoluteY | .indirect => 3

/-- Which extra-cycle predicate a descriptor has (R89): none, the page-cross penalty of R132, or the branch penalty
of R133 with the condition it tests. -/
inductive Penalty where
  | none
  | page
  | branch (c : Cond)
  deriving DecidableEq, Repr

/-- The immutable descriptor an opcode selects (R89). `build` makes the instruction from the operand bytes. -/
structure Descriptor where
  mode : Mode
  baseCycles : Nat
  penalty : Penalty
  build : Byte → Byte → Instr

/-- The instruction length in bytes. -/
def Descriptor.size (d : Descriptor) : Nat := d.mode.size

/-- A cell of the matrix for a one-byte instruction. -/
def cell1 (i : Instr) (mode : Mode) (base : Nat) : Option Descriptor :=
  some ⟨mode, base, .none, fun _ _ => i⟩

/-- A cell for a two-byte instruction. -/
def cell2 (f : Byte → Instr) (mode : Mode) (base : Nat) (penalty : Penalty := .none) : Option Descriptor :=
  some ⟨mode, base, penalty, fun op0 _ => f op0⟩

/-- A cell for a three-byte instruction; its operand is `op0 | op1 << 8` (R87). -/
def cell3 (f : Word → Instr) (mode : Mode) (base : Nat) (penalty : Penalty := .none) : Option Descriptor :=
  some ⟨mode, base, penalty, fun op0 op1 => f (combine op0 op1)⟩

/-- R90, row 0x. -/
def matrixRow0 : List (Option Descriptor) := [
  cell1 .brk .implied 7, cell2 .oraIndX .indirectX 6, none, none,
  none, cell2 .oraZp .zeroPage 3, cell2 .aslZp .zeroPage 5, none,
  cell1 .php .implied 3, cell2 .oraImm .immediate 2, cell1 .aslA .accumulator 2, none,
  none, cell3 .oraAbs .absolute 4, cell3 .aslAbs .absolute 6, none]

/-- R90, row 1x. -/
def matrixRow1 : List (Option Descriptor) := [
  cell2 .bpl .relative 2 (.branch .pl), cell2 .oraIndY .indirectY 5 .page, none, none,
  none, cell2 .oraZpX .zeroPageX 4, cell2 .aslZpX .zeroPageX 6, none,
  cell1 .clc .implied 2, cell3 .oraAbsY .absoluteY 4 .page, none, none,
  none, cell3 .oraAbsX .absoluteX 4 .page, cell3 .aslAbsX .absoluteX 7, none]

/-- R90, row 2x. -/
def matrixRow2 : List (Option Descriptor) := [
  cell3 .jsr .absolute 6, cell2 .andIndX .indirectX 6, none, none,
  cell2 .bitZp .zeroPage 3, cell2 .andZp .zeroPage 3, cell2 .rolZp .zeroPage 5, none,
  cell1 .plp .implied 4, cell2 .andImm .immediate 2, cell1 .rolA .accumulator 2, none,
  cell3 .bitAbs .absolute 4, cell3 .andAbs .absolute 4, cell3 .rolAbs .absolute 6, none]

/-- R90, row 3x. -/
def matrixRow3 : List (Option Descriptor) := [
  cell2 .bmi .relative 2 (.branch .mi), cell2 .andIndY .indirectY 5 .page, none, none,
  none, cell2 .andZpX .zeroPageX 4, cell2 .rolZpX .zeroPageX 6, none,
  cell1 .sec .implied 2, cell3 .andAbsY .absoluteY 4 .page, none, none,
  none, cell3 .andAbsX .absoluteX 4 .page, cell3 .rolAbsX .absoluteX 7, none]

/-- R90, row 4x. -/
def matrixRow4 : List (Option Descriptor) := [
  cell1 .rti .implied 6, cell2 .eorIndX .indirectX 6, none, none,
  none, cell2 .eorZp .zeroPage 3, cell2 .lsrZp .zeroPage 5, none,
  cell1 .pha .implied 3, cell2 .eorImm .immediate 2, cell1 .lsrA .accumulator 2, none,
  cell3 .jmpAbs .absolute 3, cell3 .eorAbs .absolute 4, cell3 .lsrAbs .absolute 6, none]

/-- R90, row 5x. -/
def matrixRow5 : List (Option Descriptor) := [
  cell2 .bvc .relative 2 (.branch .vc), cell2 .eorIndY .indirectY 5 .page, none, none,
  none, cell2 .eorZpX .zeroPageX 4, cell2 .lsrZpX .zeroPageX 6, none,
  cell1 .cli .implied 2, cell3 .eorAbsY .absoluteY 4 .page, none, none,
  none, cell3 .eorAbsX .absoluteX 4 .page, cell3 .lsrAbsX .absoluteX 7, none]

/-- R90, row 6x. -/
def matrixRow6 : List (Option Descriptor) := [
  cell1 .rts .implied 6, cell2 .adcIndX .indirectX 6, none, none,
  none, cell2 .adcZp .zeroPage 3, cell2 .rorZp .zeroPage 5, none,
  cell1 .pla .implied 4, cell2 .adcImm .immediate 2, cell1 .rorA .accumulator 2, none,
  cell3 .jmpInd .indirect 5, cell3 .adcAbs .absolute 4, cell3 .rorAbs .absolute 6, none]

/-- R90, row 7x. -/
def matrixRow7 : List (Option Descriptor) := [
  cell2 .bvs .relative 2 (.branch .vs), cell2 .adcIndY .indirectY 5 .page, none, none,
  none, cell2 .adcZpX .zeroPageX 4, cell2 .rorZpX .zeroPageX 6, none,
  cell1 .sei .implied 2, cell3 .adcAbsY .absoluteY 4 .page, none, none,
  none, cell3 .adcAbsX .absoluteX 4 .page, cell3 .rorAbsX .absoluteX 7, none]

/-- R90, row 8x. -/
def matrixRow8 : List (Option Descriptor) := [
  none, cell2 .staIndX .indirectX 6, none, none,
  cell2 .styZp .zeroPage 3, cell2 .staZp .zeroPage 3, cell2 .stxZp .zeroPage 3, none,
  cell1 .dey .implied 2, none, cell1 .txa .implied 2, none,
  cell3 .styAbs .absolute 4, cell3 .staAbs .absolute 4, cell3 .stxAbs .absolute 4, none]

/-- R90, row 9x. -/
def matrixRow9 : List (Option Descriptor) := [
  cell2 .bcc .relative 2 (.branch .cc), cell2 .staIndY .indirectY 6, none, none,
  cell2 .styZpX .zeroPageX 4, cell2 .staZpX .zeroPageX 4, cell2 .stxZpY .zeroPageY 4, none,
  cell1 .tya .implied 2, cell3 .staAbsY .absoluteY 5, cell1 .txs .implied 2, none,
  none, cell3 .staAbsX .absoluteX 5, none, none]

/-- R90, row Ax. -/
def matrixRowA : List (Option Descriptor) := [
  cell2 .ldyImm .immediate 2, cell2 .ldaIndX .indirectX 6, cell2 .ldxImm .immediate 2, none,
  cell2 .ldyZp .zeroPage 3, cell2 .ldaZp .zeroPage 3, cell2 .ldxZp .zeroPage 3, none,
  cell1 .tay .implied 2, cell2 .ldaImm .immediate 2, cell1 .tax .implied 2, none,
  cell3 .ldyAbs .absolute 4, cell3 .ldaAbs .absolute 4, cell3 .ldxAbs .absolute 4, none]

/-- R90, row Bx. -/
def matrixRowB : List (Option Descriptor) := [
  cell2 .bcs .relative 2 (.branch .cs), cell2 .ldaIndY .indirectY 5 .page, none, none,
  cell2 .ldyZpX .zeroPageX 4, cell2 .ldaZpX .zeroPageX 4, cell2 .ldxZpY .zeroPageY 4, none,
  cell1 .clv .implied 2, cell3 .ldaAbsY .absoluteY 4 .page, cell1 .tsx .implied 2, none,
  cell3 .ldyAbsX .absoluteX 4 .page, cell3 .ldaAbsX .absoluteX 4 .page, cell3 .ldxAbsY .absoluteY 4 .page, none]

/-- R90, row Cx. -/
def matrixRowC : List (Option Descriptor) := [
  cell2 .cpyImm .immediate 2, cell2 .cmpIndX .indirectX 6, none, none,
  cell2 .cpyZp .zeroPage 3, cell2 .cmpZp .zeroPage 3, cell2 .decZp .zeroPage 5, none,
  cell1 .iny .implied 2, cell2 .cmpImm .immediate 2, cell1 .dex .implied 2, none,
  cell3 .cpyAbs .absolute 4, cell3 .cmpAbs .absolute 4, cell3 .decAbs .absolute 6, none]

/-- R90, row Dx. -/
def matrixRowD : List (Option Descriptor) := [
  cell2 .bne .relative 2 (.branch .ne), cell2 .cmpIndY .indirectY 5 .page, none, none,
  none, cell2 .cmpZpX .zeroPageX 4, cell2 .decZpX .zeroPageX 6, none,
  cell1 .cld .implied 2, cell3 .cmpAbsY .absoluteY 4 .page, none, none,
  none, cell3 .cmpAbsX .absoluteX 4 .page, cell3 .decAbsX .absoluteX 7, none]

/-- R90, row Ex. -/
def matrixRowE : List (Option Descriptor) := [
  cell2 .cpxImm .immediate 2, cell2 .sbcIndX .indirectX 6, none, none,
  cell2 .cpxZp .zeroPage 3, cell2 .sbcZp .zeroPage 3, cell2 .incZp .zeroPage 5, none,
  cell1 .inx .implied 2, cell2 .sbcImm .immediate 2, cell1 .nop .implied 2, none,
  cell3 .cpxAbs .absolute 4, cell3 .sbcAbs .absolute 4, cell3 .incAbs .absolute 6, none]

/-- R90, row Fx. -/
def matrixRowF : List (Option Descriptor) := [
  cell2 .beq .relative 2 (.branch .eq), cell2 .sbcIndY .indirectY 5 .page, none, none,
  none, cell2 .sbcZpX .zeroPageX 4, cell2 .incZpX .zeroPageX 6, none,
  cell1 .sed .implied 2, cell3 .sbcAbsY .absoluteY 4 .page, none, none,
  none, cell3 .sbcAbsX .absoluteX 4 .page, cell3 .incAbsX .absoluteX 7, none]

/-- The opcode matrix (R90): the row is the high nibble, the column the low one. -/
def matrix : List (List (Option Descriptor)) := [
  matrixRow0, matrixRow1, matrixRow2, matrixRow3, matrixRow4, matrixRow5, matrixRow6, matrixRow7,
  matrixRow8, matrixRow9, matrixRowA, matrixRowB, matrixRowC, matrixRowD, matrixRowE, matrixRowF]

/-- `descriptor(opcode)`: one lookup keyed by the whole byte (R85, R89); `none` is a slot of size 0 (R92). The same
for both values of MODEL (R89). -/
def descriptor (opcode : Byte) : Option Descriptor :=
  (matrix.getD (opcode.toNat / 16) []).getD (opcode.toNat % 16) none

/-- Why bytes are not an instruction. -/
inductive DecodeError where
  | noBytes
  | invalidOpcode (opcode : Byte)
  | missingOperand (opcode : Byte)
  deriving DecidableEq, Repr

/-- The instruction at the head of the bytes, and the bytes after it. -/
def decode : List Byte → Except DecodeError (Instr × List Byte)
  | [] => .error .noBytes
  | opcode :: rest =>
    match descriptor opcode with
    | none => .error (.invalidOpcode opcode)
    | some d =>
      if d.size = 1 then .ok (d.build 0 0, rest)
      else if d.size = 2 then
        match rest with
        | op0 :: rest => .ok (d.build op0 0, rest)
        | [] => .error (.missingOperand opcode)
      else
        match rest with
        | op0 :: op1 :: rest => .ok (d.build op0 op1, rest)
        | _ => .error (.missingOperand opcode)

/-- Three bytes of a number whose bits are counted as spec/opcode_table.json counts them: byte 0 is bits 7..0, byte 1
bits 15..8, byte 2 bits 23..16; the bits from `nbits` on are 0. -/
def tableBytes (nbits w : Nat) : List Byte :=
  let v := w % 2 ^ nbits
  [BitVec.ofNat 8 v, BitVec.ofNat 8 (v / 256), BitVec.ofNat 8 (v / 65536)]

/-- The instruction the decoder reads from a word of spec/opcode_table.json. -/
def decodeTableWord (nbits w : Nat) : Option Instr :=
  match decode (tableBytes nbits w) with
  | .ok (i, _) => some i
  | .error _ => none

/-- The bytes of an instruction (R85): opcode, then `op0`, then `op1`, low byte first (R87). -/
def encode : Instr → List Byte
  | .ldaImm op0 => [0xA9, op0]
  | .ldaZp op0 => [0xA5, op0]
  | .ldaZpX op0 => [0xB5, op0]
  | .ldaAbs addr => [0xAD, lowByte addr, highByte addr]
  | .ldaAbsX addr => [0xBD, lowByte addr, highByte addr]
  | .ldaAbsY addr => [0xB9, lowByte addr, highByte addr]
  | .ldaIndX op0 => [0xA1, op0]
  | .ldaIndY op0 => [0xB1, op0]
  | .ldxImm op0 => [0xA2, op0]
  | .ldxZp op0 => [0xA6, op0]
  | .ldxZpY op0 => [0xB6, op0]
  | .ldxAbs addr => [0xAE, lowByte addr, highByte addr]
  | .ldxAbsY addr => [0xBE, lowByte addr, highByte addr]
  | .ldyImm op0 => [0xA0, op0]
  | .ldyZp op0 => [0xA4, op0]
  | .ldyZpX op0 => [0xB4, op0]
  | .ldyAbs addr => [0xAC, lowByte addr, highByte addr]
  | .ldyAbsX addr => [0xBC, lowByte addr, highByte addr]
  | .staZp op0 => [0x85, op0]
  | .staZpX op0 => [0x95, op0]
  | .staAbs addr => [0x8D, lowByte addr, highByte addr]
  | .staAbsX addr => [0x9D, lowByte addr, highByte addr]
  | .staAbsY addr => [0x99, lowByte addr, highByte addr]
  | .staIndX op0 => [0x81, op0]
  | .staIndY op0 => [0x91, op0]
  | .stxZp op0 => [0x86, op0]
  | .stxZpY op0 => [0x96, op0]
  | .stxAbs addr => [0x8E, lowByte addr, highByte addr]
  | .styZp op0 => [0x84, op0]
  | .styZpX op0 => [0x94, op0]
  | .styAbs addr => [0x8C, lowByte addr, highByte addr]
  | .tax => [0xAA]
  | .tay => [0xA8]
  | .txa => [0x8A]
  | .tya => [0x98]
  | .tsx => [0xBA]
  | .txs => [0x9A]
  | .pha => [0x48]
  | .php => [0x08]
  | .pla => [0x68]
  | .plp => [0x28]
  | .andImm op0 => [0x29, op0]
  | .andZp op0 => [0x25, op0]
  | .andZpX op0 => [0x35, op0]
  | .andAbs addr => [0x2D, lowByte addr, highByte addr]
  | .andAbsX addr => [0x3D, lowByte addr, highByte addr]
  | .andAbsY addr => [0x39, lowByte addr, highByte addr]
  | .andIndX op0 => [0x21, op0]
  | .andIndY op0 => [0x31, op0]
  | .oraImm op0 => [0x09, op0]
  | .oraZp op0 => [0x05, op0]
  | .oraZpX op0 => [0x15, op0]
  | .oraAbs addr => [0x0D, lowByte addr, highByte addr]
  | .oraAbsX addr => [0x1D, lowByte addr, highByte addr]
  | .oraAbsY addr => [0x19, lowByte addr, highByte addr]
  | .oraIndX op0 => [0x01, op0]
  | .oraIndY op0 => [0x11, op0]
  | .eorImm op0 => [0x49, op0]
  | .eorZp op0 => [0x45, op0]
  | .eorZpX op0 => [0x55, op0]
  | .eorAbs addr => [0x4D, lowByte addr, highByte addr]
  | .eorAbsX addr => [0x5D, lowByte addr, highByte addr]
  | .eorAbsY addr => [0x59, lowByte addr, highByte addr]
  | .eorIndX op0 => [0x41, op0]
  | .eorIndY op0 => [0x51, op0]
  | .bitZp op0 => [0x24, op0]
  | .bitAbs addr => [0x2C, lowByte addr, highByte addr]
  | .adcImm op0 => [0x69, op0]
  | .adcZp op0 => [0x65, op0]
  | .adcZpX op0 => [0x75, op0]
  | .adcAbs addr => [0x6D, lowByte addr, highByte addr]
  | .adcAbsX addr => [0x7D, lowByte addr, highByte addr]
  | .adcAbsY addr => [0x79, lowByte addr, highByte addr]
  | .adcIndX op0 => [0x61, op0]
  | .adcIndY op0 => [0x71, op0]
  | .sbcImm op0 => [0xE9, op0]
  | .sbcZp op0 => [0xE5, op0]
  | .sbcZpX op0 => [0xF5, op0]
  | .sbcAbs addr => [0xED, lowByte addr, highByte addr]
  | .sbcAbsX addr => [0xFD, lowByte addr, highByte addr]
  | .sbcAbsY addr => [0xF9, lowByte addr, highByte addr]
  | .sbcIndX op0 => [0xE1, op0]
  | .sbcIndY op0 => [0xF1, op0]
  | .cmpImm op0 => [0xC9, op0]
  | .cmpZp op0 => [0xC5, op0]
  | .cmpZpX op0 => [0xD5, op0]
  | .cmpAbs addr => [0xCD, lowByte addr, highByte addr]
  | .cmpAbsX addr => [0xDD, lowByte addr, highByte addr]
  | .cmpAbsY addr => [0xD9, lowByte addr, highByte addr]
  | .cmpIndX op0 => [0xC1, op0]
  | .cmpIndY op0 => [0xD1, op0]
  | .cpxImm op0 => [0xE0, op0]
  | .cpxZp op0 => [0xE4, op0]
  | .cpxAbs addr => [0xEC, lowByte addr, highByte addr]
  | .cpyImm op0 => [0xC0, op0]
  | .cpyZp op0 => [0xC4, op0]
  | .cpyAbs addr => [0xCC, lowByte addr, highByte addr]
  | .aslA => [0x0A]
  | .aslZp op0 => [0x06, op0]
  | .aslZpX op0 => [0x16, op0]
  | .aslAbs addr => [0x0E, lowByte addr, highByte addr]
  | .aslAbsX addr => [0x1E, lowByte addr, highByte addr]
  | .lsrA => [0x4A]
  | .lsrZp op0 => [0x46, op0]
  | .lsrZpX op0 => [0x56, op0]
  | .lsrAbs addr => [0x4E, lowByte addr, highByte addr]
  | .lsrAbsX addr => [0x5E, lowByte addr, highByte addr]
  | .rolA => [0x2A]
  | .rolZp op0 => [0x26, op0]
  | .rolZpX op0 => [0x36, op0]
  | .rolAbs addr => [0x2E, lowByte addr, highByte addr]
  | .rolAbsX addr => [0x3E, lowByte addr, highByte addr]
  | .rorA => [0x6A]
  | .rorZp op0 => [0x66, op0]
  | .rorZpX op0 => [0x76, op0]
  | .rorAbs addr => [0x6E, lowByte addr, highByte addr]
  | .rorAbsX addr => [0x7E, lowByte addr, highByte addr]
  | .incZp op0 => [0xE6, op0]
  | .incZpX op0 => [0xF6, op0]
  | .incAbs addr => [0xEE, lowByte addr, highByte addr]
  | .incAbsX addr => [0xFE, lowByte addr, highByte addr]
  | .decZp op0 => [0xC6, op0]
  | .decZpX op0 => [0xD6, op0]
  | .decAbs addr => [0xCE, lowByte addr, highByte addr]
  | .decAbsX addr => [0xDE, lowByte addr, highByte addr]
  | .inx => [0xE8]
  | .dex => [0xCA]
  | .iny => [0xC8]
  | .dey => [0x88]
  | .bpl off => [0x10, off]
  | .bmi off => [0x30, off]
  | .bvc off => [0x50, off]
  | .bvs off => [0x70, off]
  | .bcc off => [0x90, off]
  | .bcs off => [0xB0, off]
  | .bne off => [0xD0, off]
  | .beq off => [0xF0, off]
  | .jmpAbs addr => [0x4C, lowByte addr, highByte addr]
  | .jmpInd addr => [0x6C, lowByte addr, highByte addr]
  | .jsr addr => [0x20, lowByte addr, highByte addr]
  | .rts => [0x60]
  | .brk => [0x00]
  | .rti => [0x40]
  | .clc => [0x18]
  | .sec => [0x38]
  | .cli => [0x58]
  | .sei => [0x78]
  | .clv => [0xB8]
  | .cld => [0xD8]
  | .sed => [0xF8]
  | .nop => [0xEA]

/-- The opcode byte (R85). -/
def Instr.opcode (i : Instr) : Byte := (encode i).getD 0 0

/-- `operand_bytes[0]` of the instruction; 0 where it has none (spec/10_state.md R36). -/
def Instr.op0 (i : Instr) : Byte := (encode i).getD 1 0

/-- `operand_bytes[1]` of the instruction; 0 where it has none (R36). -/
def Instr.op1 (i : Instr) : Byte := (encode i).getD 2 0

/-- The mnemonic of each row of the table (R90). -/
def Instr.mnemonic : Instr → Mnemonic
  | .ldaImm _ => .lda
  | .ldaZp _ => .lda
  | .ldaZpX _ => .lda
  | .ldaAbs _ => .lda
  | .ldaAbsX _ => .lda
  | .ldaAbsY _ => .lda
  | .ldaIndX _ => .lda
  | .ldaIndY _ => .lda
  | .ldxImm _ => .ldx
  | .ldxZp _ => .ldx
  | .ldxZpY _ => .ldx
  | .ldxAbs _ => .ldx
  | .ldxAbsY _ => .ldx
  | .ldyImm _ => .ldy
  | .ldyZp _ => .ldy
  | .ldyZpX _ => .ldy
  | .ldyAbs _ => .ldy
  | .ldyAbsX _ => .ldy
  | .staZp _ => .sta
  | .staZpX _ => .sta
  | .staAbs _ => .sta
  | .staAbsX _ => .sta
  | .staAbsY _ => .sta
  | .staIndX _ => .sta
  | .staIndY _ => .sta
  | .stxZp _ => .stx
  | .stxZpY _ => .stx
  | .stxAbs _ => .stx
  | .styZp _ => .sty
  | .styZpX _ => .sty
  | .styAbs _ => .sty
  | .tax => .tax
  | .tay => .tay
  | .txa => .txa
  | .tya => .tya
  | .tsx => .tsx
  | .txs => .txs
  | .pha => .pha
  | .php => .php
  | .pla => .pla
  | .plp => .plp
  | .andImm _ => .and
  | .andZp _ => .and
  | .andZpX _ => .and
  | .andAbs _ => .and
  | .andAbsX _ => .and
  | .andAbsY _ => .and
  | .andIndX _ => .and
  | .andIndY _ => .and
  | .oraImm _ => .ora
  | .oraZp _ => .ora
  | .oraZpX _ => .ora
  | .oraAbs _ => .ora
  | .oraAbsX _ => .ora
  | .oraAbsY _ => .ora
  | .oraIndX _ => .ora
  | .oraIndY _ => .ora
  | .eorImm _ => .eor
  | .eorZp _ => .eor
  | .eorZpX _ => .eor
  | .eorAbs _ => .eor
  | .eorAbsX _ => .eor
  | .eorAbsY _ => .eor
  | .eorIndX _ => .eor
  | .eorIndY _ => .eor
  | .bitZp _ => .bit
  | .bitAbs _ => .bit
  | .adcImm _ => .adc
  | .adcZp _ => .adc
  | .adcZpX _ => .adc
  | .adcAbs _ => .adc
  | .adcAbsX _ => .adc
  | .adcAbsY _ => .adc
  | .adcIndX _ => .adc
  | .adcIndY _ => .adc
  | .sbcImm _ => .sbc
  | .sbcZp _ => .sbc
  | .sbcZpX _ => .sbc
  | .sbcAbs _ => .sbc
  | .sbcAbsX _ => .sbc
  | .sbcAbsY _ => .sbc
  | .sbcIndX _ => .sbc
  | .sbcIndY _ => .sbc
  | .cmpImm _ => .cmp
  | .cmpZp _ => .cmp
  | .cmpZpX _ => .cmp
  | .cmpAbs _ => .cmp
  | .cmpAbsX _ => .cmp
  | .cmpAbsY _ => .cmp
  | .cmpIndX _ => .cmp
  | .cmpIndY _ => .cmp
  | .cpxImm _ => .cpx
  | .cpxZp _ => .cpx
  | .cpxAbs _ => .cpx
  | .cpyImm _ => .cpy
  | .cpyZp _ => .cpy
  | .cpyAbs _ => .cpy
  | .aslA => .asl
  | .aslZp _ => .asl
  | .aslZpX _ => .asl
  | .aslAbs _ => .asl
  | .aslAbsX _ => .asl
  | .lsrA => .lsr
  | .lsrZp _ => .lsr
  | .lsrZpX _ => .lsr
  | .lsrAbs _ => .lsr
  | .lsrAbsX _ => .lsr
  | .rolA => .rol
  | .rolZp _ => .rol
  | .rolZpX _ => .rol
  | .rolAbs _ => .rol
  | .rolAbsX _ => .rol
  | .rorA => .ror
  | .rorZp _ => .ror
  | .rorZpX _ => .ror
  | .rorAbs _ => .ror
  | .rorAbsX _ => .ror
  | .incZp _ => .inc
  | .incZpX _ => .inc
  | .incAbs _ => .inc
  | .incAbsX _ => .inc
  | .decZp _ => .dec
  | .decZpX _ => .dec
  | .decAbs _ => .dec
  | .decAbsX _ => .dec
  | .inx => .inx
  | .dex => .dex
  | .iny => .iny
  | .dey => .dey
  | .bpl _ => .bpl
  | .bmi _ => .bmi
  | .bvc _ => .bvc
  | .bvs _ => .bvs
  | .bcc _ => .bcc
  | .bcs _ => .bcs
  | .bne _ => .bne
  | .beq _ => .beq
  | .jmpAbs _ => .jmp
  | .jmpInd _ => .jmp
  | .jsr _ => .jsr
  | .rts => .rts
  | .brk => .brk
  | .rti => .rti
  | .clc => .clc
  | .sec => .sec
  | .cli => .cli
  | .sei => .sei
  | .clv => .clv
  | .cld => .cld
  | .sed => .sed
  | .nop => .nop

/-- The addressing mode of each row of the table (R90). -/
def Instr.mode : Instr → Mode
  | .ldaImm _ => .immediate
  | .ldaZp _ => .zeroPage
  | .ldaZpX _ => .zeroPageX
  | .ldaAbs _ => .absolute
  | .ldaAbsX _ => .absoluteX
  | .ldaAbsY _ => .absoluteY
  | .ldaIndX _ => .indirectX
  | .ldaIndY _ => .indirectY
  | .ldxImm _ => .immediate
  | .ldxZp _ => .zeroPage
  | .ldxZpY _ => .zeroPageY
  | .ldxAbs _ => .absolute
  | .ldxAbsY _ => .absoluteY
  | .ldyImm _ => .immediate
  | .ldyZp _ => .zeroPage
  | .ldyZpX _ => .zeroPageX
  | .ldyAbs _ => .absolute
  | .ldyAbsX _ => .absoluteX
  | .staZp _ => .zeroPage
  | .staZpX _ => .zeroPageX
  | .staAbs _ => .absolute
  | .staAbsX _ => .absoluteX
  | .staAbsY _ => .absoluteY
  | .staIndX _ => .indirectX
  | .staIndY _ => .indirectY
  | .stxZp _ => .zeroPage
  | .stxZpY _ => .zeroPageY
  | .stxAbs _ => .absolute
  | .styZp _ => .zeroPage
  | .styZpX _ => .zeroPageX
  | .styAbs _ => .absolute
  | .tax => .implied
  | .tay => .implied
  | .txa => .implied
  | .tya => .implied
  | .tsx => .implied
  | .txs => .implied
  | .pha => .implied
  | .php => .implied
  | .pla => .implied
  | .plp => .implied
  | .andImm _ => .immediate
  | .andZp _ => .zeroPage
  | .andZpX _ => .zeroPageX
  | .andAbs _ => .absolute
  | .andAbsX _ => .absoluteX
  | .andAbsY _ => .absoluteY
  | .andIndX _ => .indirectX
  | .andIndY _ => .indirectY
  | .oraImm _ => .immediate
  | .oraZp _ => .zeroPage
  | .oraZpX _ => .zeroPageX
  | .oraAbs _ => .absolute
  | .oraAbsX _ => .absoluteX
  | .oraAbsY _ => .absoluteY
  | .oraIndX _ => .indirectX
  | .oraIndY _ => .indirectY
  | .eorImm _ => .immediate
  | .eorZp _ => .zeroPage
  | .eorZpX _ => .zeroPageX
  | .eorAbs _ => .absolute
  | .eorAbsX _ => .absoluteX
  | .eorAbsY _ => .absoluteY
  | .eorIndX _ => .indirectX
  | .eorIndY _ => .indirectY
  | .bitZp _ => .zeroPage
  | .bitAbs _ => .absolute
  | .adcImm _ => .immediate
  | .adcZp _ => .zeroPage
  | .adcZpX _ => .zeroPageX
  | .adcAbs _ => .absolute
  | .adcAbsX _ => .absoluteX
  | .adcAbsY _ => .absoluteY
  | .adcIndX _ => .indirectX
  | .adcIndY _ => .indirectY
  | .sbcImm _ => .immediate
  | .sbcZp _ => .zeroPage
  | .sbcZpX _ => .zeroPageX
  | .sbcAbs _ => .absolute
  | .sbcAbsX _ => .absoluteX
  | .sbcAbsY _ => .absoluteY
  | .sbcIndX _ => .indirectX
  | .sbcIndY _ => .indirectY
  | .cmpImm _ => .immediate
  | .cmpZp _ => .zeroPage
  | .cmpZpX _ => .zeroPageX
  | .cmpAbs _ => .absolute
  | .cmpAbsX _ => .absoluteX
  | .cmpAbsY _ => .absoluteY
  | .cmpIndX _ => .indirectX
  | .cmpIndY _ => .indirectY
  | .cpxImm _ => .immediate
  | .cpxZp _ => .zeroPage
  | .cpxAbs _ => .absolute
  | .cpyImm _ => .immediate
  | .cpyZp _ => .zeroPage
  | .cpyAbs _ => .absolute
  | .aslA => .accumulator
  | .aslZp _ => .zeroPage
  | .aslZpX _ => .zeroPageX
  | .aslAbs _ => .absolute
  | .aslAbsX _ => .absoluteX
  | .lsrA => .accumulator
  | .lsrZp _ => .zeroPage
  | .lsrZpX _ => .zeroPageX
  | .lsrAbs _ => .absolute
  | .lsrAbsX _ => .absoluteX
  | .rolA => .accumulator
  | .rolZp _ => .zeroPage
  | .rolZpX _ => .zeroPageX
  | .rolAbs _ => .absolute
  | .rolAbsX _ => .absoluteX
  | .rorA => .accumulator
  | .rorZp _ => .zeroPage
  | .rorZpX _ => .zeroPageX
  | .rorAbs _ => .absolute
  | .rorAbsX _ => .absoluteX
  | .incZp _ => .zeroPage
  | .incZpX _ => .zeroPageX
  | .incAbs _ => .absolute
  | .incAbsX _ => .absoluteX
  | .decZp _ => .zeroPage
  | .decZpX _ => .zeroPageX
  | .decAbs _ => .absolute
  | .decAbsX _ => .absoluteX
  | .inx => .implied
  | .dex => .implied
  | .iny => .implied
  | .dey => .implied
  | .bpl _ => .relative
  | .bmi _ => .relative
  | .bvc _ => .relative
  | .bvs _ => .relative
  | .bcc _ => .relative
  | .bcs _ => .relative
  | .bne _ => .relative
  | .beq _ => .relative
  | .jmpAbs _ => .absolute
  | .jmpInd _ => .indirect
  | .jsr _ => .absolute
  | .rts => .implied
  | .brk => .implied
  | .rti => .implied
  | .clc => .implied
  | .sec => .implied
  | .cli => .implied
  | .sei => .implied
  | .clv => .implied
  | .cld => .implied
  | .sed => .implied
  | .nop => .implied

/-- The length in bytes (R88). -/
def Instr.size (i : Instr) : Nat := i.mode.size

end Sys2Proof
end

