-- ==== Sys2Proof/Machine/State.lean ====
section
/-! DEFINITION. The state of the block as plain data (spec/10_state.md R20 to R40), the reasons a step can stop, and
the state after reset. -/

namespace Sys2Proof.Machine

/-- The status register P (R25): the six stored flags. Bit 5 reads 1 and bit 4 reads 0 without storage, so neither is
a field; `Status.pack` gives the byte (R26). -/
structure Status where
  n : Bool
  v : Bool
  d : Bool
  i : Bool
  z : Bool
  c : Bool
  deriving DecidableEq, Repr

/-- The two kinds of interrupt request (spec/00_scope.md R6). -/
inductive IntKind where
  | irq
  | nmi
  deriving DecidableEq, Repr

/-- The decode state of the dispatcher: the four fields of R36 (`operand_bytes` as `op0` and `op1`) and the two of
R37. -/
structure DecodeState where
  opcodeByte : Byte
  op0 : Byte
  op1 : Byte
  /-- 0..7 in every state that a run reaches. -/
  cycleIndex : Nat
  fetchNext : Bool
  /-- 0..2 in every state that a run reaches. -/
  extra : Nat
  entryKind : Option IntKind
  deriving DecidableEq, Repr

/-- The three fatal error kinds with their records (spec/60_exceptions.md R270 to R273). A fatal error does not end a
run of the model: the spec says what it does (R270: the core halts and keeps the record), so it is a NEXT state whose
`State.fault` holds the kind and record, and no step and no instruction answers `Outcome.fault` (safe). -/
inductive Fault where
  /-- Recorded in `State.fault` by the opcode-fetch tick on one of the 105 invalid values (R271); safe. -/
  | invalidOpcode (opcode : Byte) (address : Word)
  /-- Recorded in `State.fault` at the retirement of ADC or SBC with D = 1, and of SED (R272); safe. -/
  | decimalModeUnsupported (opcode : Byte) (address : Word)
  /-- Recorded by nothing: R273 says no rule raises it and a model may keep it; safe. -/
  | memoryBoundsViolation
  deriving DecidableEq, Repr

/-- Why the model gives a step no meaning. -/
inductive Refusal where
  /-- Answered by a rejected arm of `exec`, of which this model has none; safe. -/
  | notModelled (mnemonic : String)
  /-- Answered by `TICK` and `REQUEST_INTERRUPT` before the first `RESET` (spec/70_reset_and_hazards.md R305); safe. -/
  | beforeFirstReset
  /-- Answered by an instruction tick whose `opcode_byte` is one of the 105 invalid values while the core is not
  halted. No run reaches such a state (spec/40_dispatcher.md R120); safe. -/
  | noDescriptorInFlight (opcode : Byte)
  deriving DecidableEq, Repr

/-- What the driver can do, one at a time (R6): the three actions of the block, and a change of one memory byte
between actions (spec/20_memory.md R68, R71). -/
inductive Action where
  | tick
  | reset
  | requestInterrupt (kind : IntKind)
  | driverWrite (address : Word) (value : Byte)
  deriving DecidableEq, Repr

/-- The memory behind the port (R60): pairs of an address and a byte, addresses strictly rising, no byte equal to what
an unlisted address reads as. -/
abbrev Memory := List Host.Cell

/-- Everything the spec gives the machine (R40), the condition of R305, and the driver's coming actions. -/
structure State where
  /-- `MODEL`, fixed at construction (spec/00_scope.md R3). -/
  model : Model
  /-- R21 -/
  a : Byte
  /-- R22 -/
  x : Byte
  /-- R23 -/
  y : Byte
  /-- R24 -/
  sp : Byte
  /-- R35 -/
  pc : Word
  /-- R25 -/
  p : Status
  /-- R36, R37 -/
  dec : DecodeState
  /-- R38 -/
  nmiPending : Bool
  /-- R38 -/
  irqPending : Bool
  /-- R39 -/
  halted : Bool
  /-- R39 -/
  fault : Option Fault
  /-- R60, R68 -/
  mem : Memory
  /-- Whether `RESET` has been applied since construction (R305). -/
  resetApplied : Bool
  /-- The MODEL's own field (DESIGN CHOICE, log 2): the actions the driver applies next, before it goes on with plain
  ticks. -/
  driver : List Action
  deriving DecidableEq, Repr

/-- What one action or one instruction answers. -/
abbrev Result := Host.Outcome State Fault Refusal

/-- The decode state at an instruction boundary (R36, R37): what `clear_decode` leaves. -/
def DecodeState.boundary : DecodeState where
  opcodeByte := 0x00
  op0 := 0x00
  op1 := 0x00
  cycleIndex := 0
  fetchNext := true
  extra := 0
  entryKind := none

/-- P after `RESET` (R29): every flag 0 but I. -/
def Status.afterReset : Status where
  n := false
  v := false
  d := false
  i := true
  z := false
  c := false

/-- The machine right after `RESET` (R40) with nothing listed in memory. PC is the reset vector, which an empty memory
reads as 0x0000 (DESIGN CHOICE, log 4); MODEL is `Original` (DESIGN CHOICE, log 3). -/
def State.reset : State where
  model := .original
  a := 0x00
  x := 0x00
  y := 0x00
  sp := 0xFD
  pc := 0x0000
  p := Status.afterReset
  dec := DecodeState.boundary
  nmiPending := false
  irqPending := false
  halted := false
  fault := none
  mem := []
  resetApplied := true
  driver := []

/-- The machine after `new(model)` and before the first `RESET` (spec/00_scope.md R7): the spec gives no register
value, so every field but the variant, the memory and the driver's actions is whatever `unspecified` holds. -/
def State.construct (model : Model) (mem0 : Memory) (driver : List Action) (unspecified : State) : State :=
  { unspecified with model := model, mem := mem0, driver := driver, resetApplied := false }

/-- What the observation port shows (R6). -/
structure Observation where
  a : Byte
  x : Byte
  y : Byte
  sp : Byte
  pc : Word
  p : Byte
  cycleIndex : Nat
  deriving DecidableEq, Repr

end Sys2Proof.Machine
end

