-- ==== Sys2Proof/Machine/Flags.lean ====
section
/-! DEFINITION. The status byte and every flag and result computation (spec/10_state.md R25 to R34, spec/43 R184 to
R189, spec/44 R200 to R203, spec/45_control.md R220). -/

namespace Sys2Proof.Machine

/-- Pack (R26): `N<<7 | V<<6 | 1<<5 | 0<<4 | D<<3 | I<<2 | Z<<1 | C`. -/
def Status.pack (p : Status) : Byte :=
  BitVec.ofNat 8 (p.n.toNat * 128 + p.v.toNat * 64 + 32 + p.d.toNat * 8 + p.i.toNat * 4 + p.z.toNat * 2 + p.c.toNat)

/-- Unpack (R27): bits 5 and 4 are discarded. -/
def Status.unpack (b : Byte) : Status where
  n := b.getLsbD 7
  v := b.getLsbD 6
  d := b.getLsbD 3
  i := b.getLsbD 2
  z := b.getLsbD 1
  c := b.getLsbD 0

/-- The copy of P that BRK and PHP push (R28): bits 5 and 4 set. -/
def Status.stackedByProgram (p : Status) : Byte := p.pack ||| 0x30

/-- The copy of P that IRQ and NMI entry push (R28): bit 4 clear, bit 5 set. -/
def Status.stackedByInterrupt (p : Status) : Byte := (p.pack &&& ~~~0x10) ||| 0x20

/-- `setNZ(v)` (spec/00_scope.md R15, R31). -/
def Status.setNZ (v : Byte) (p : Status) : Status :=
  { p with n := v.getLsbD 7, z := v == 0 }

/-- `setNZ(v)` with the carry (R31, R32). -/
def Status.setNZC (v : Byte) (carry : Bool) (p : Status) : Status :=
  { p with n := v.getLsbD 7, z := v == 0, c := carry }

/-- The flag test of each branch (R220). -/
def Cond.holds (c : Cond) (p : Status) : Bool :=
  match c with
  | .pl => !p.n
  | .mi => p.n
  | .vc => !p.v
  | .vs => p.v
  | .cc => !p.c
  | .cs => p.c
  | .ne => !p.z
  | .eq => p.z

/-- `s <- A + M + P.C`, unbounded (R184). -/
def addSum (a m : Byte) (carryIn : Bool) : Nat := a.toNat + m.toNat + carryIn.toNat

/-- `s & 0xFF` (R184). -/
def addByte (a m : Byte) (carryIn : Bool) : Byte := BitVec.ofNat 8 (addSum a m carryIn)

/-- `s > 0xFF` (R184, R32). -/
def addCarry (a m : Byte) (carryIn : Bool) : Bool := decide (addSum a m carryIn > 0xFF)

/-- `((A ^ r) & (M ^ r) & 0x80) != 0` (R184, R33). -/
def addOverflow (a m : Byte) (carryIn : Bool) : Bool :=
  let r := addByte a m carryIn
  (a ^^^ r) &&& (m ^^^ r) &&& 0x80 != 0

/-- The flags an addition writes (R184). -/
def Status.setAdd (a m : Byte) (p : Status) : Status :=
  { p with
    n := (addByte a m p.c).getLsbD 7
    v := addOverflow a m p.c
    z := addByte a m p.c == 0
    c := addCarry a m p.c }

/-- The flags a comparison writes (R186): C is `reg >= M` unsigned, N and Z come from `(reg - M) & 0xFF`. -/
def Status.setCompare (reg m : Byte) (p : Status) : Status :=
  p.setNZC (reg - m) (decide (reg.toNat ≥ m.toNat))

/-- The flags BIT writes (R183). -/
def Status.setBit (a m : Byte) (p : Status) : Status :=
  { p with n := m.getLsbD 7, v := m.getLsbD 6, z := a &&& m == 0 }

/-- A shift or rotate: the byte and the old carry in, the result and the bit shifted out. -/
abbrev Shifter := Byte → Bool → Byte × Bool

/-- R200 -/
def aslByte : Shifter := fun v _ => (v <<< 1, v.getLsbD 7)

/-- R201 -/
def lsrByte : Shifter := fun v _ => (v >>> 1, v.getLsbD 0)

/-- R202: the old carry enters bit 0. -/
def rolByte : Shifter := fun v c => ((v <<< 1) ||| (if c then 0x01 else 0x00), v.getLsbD 7)

/-- R203: the old carry enters bit 7. -/
def rorByte : Shifter := fun v c => ((v >>> 1) ||| (if c then 0x80 else 0x00), v.getLsbD 0)

end Sys2Proof.Machine
end

