-- ==== Sys2Proof/Machine/Ops.lean ====
section
/-! DEFINITION. The named operations over memory and registers: the memory port and the stack (spec/20_memory.md R60
to R67), register writes, raising a fatal error (spec/60_exceptions.md R270), entering a handler and returning from
one (R285, R289), `RESET` (spec/70_reset_and_hazards.md R300) and `REQUEST_INTERRUPT` (R280). -/

namespace Sys2Proof.Machine

/-- What an address that memory does not list reads as. The spec leaves the initial contents open (`MEM0`,
spec/92_eei_decisions.md D25); DESIGN CHOICE, unsafe for a claim about the run from `State.reset` (log 4). -/
def unlistedByte : Byte := 0x00

/-- `INT_ENTRY_CYCLES` (spec/00_scope.md R8). -/
def intEntryCycles : Nat := 7

/-- The vectors (R67, R286): the address of each low byte. -/
def nmiVector : Word := 0xFFFA

def resetVector : Word := 0xFFFC

def irqVector : Word := 0xFFFE

/-- The byte at a numbered cell. -/
def Memory.readAt : Memory → Nat → Byte
  | [], _ => unlistedByte
  | (k, v) :: rest, a => if k = a then v else Memory.readAt rest a

/-- Store a byte at a numbered cell, keeping the canonical form. -/
def Memory.writeAt : Memory → Nat → Byte → Memory
  | [], a, v => if v = unlistedByte then [] else [(a, v)]
  | (k, w) :: rest, a, v =>
    if a < k then (if v = unlistedByte then (k, w) :: rest else (a, v) :: (k, w) :: rest)
    else if a = k then (if v = unlistedByte then rest else (a, v) :: rest)
    else (k, w) :: Memory.writeAt rest a v

/-- The canonical form from address `least` on: addresses strictly rising and below 65536, no unlisted byte listed. -/
def Memory.wfFrom : Nat → Memory → Bool
  | _, [] => true
  | least, (k, v) :: rest => decide (least ≤ k) && decide (k < 65536) && v != unlistedByte && Memory.wfFrom (k + 1) rest

/-- The canonical form of memory. -/
def Memory.wf (m : Memory) : Bool := Memory.wfFrom 0 m

/-- `MemRead(addr, 1)` (R60). -/
def Memory.read (m : Memory) (addr : Word) : Byte := Memory.readAt m addr.toNat

/-- `MemWrite(addr, 1, v)` (R60). -/
def Memory.write (m : Memory) (addr : Word) (v : Byte) : Memory := Memory.writeAt m addr.toNat v

/-- A 16-bit value in memory, low byte first (R61). -/
def Memory.readWord (m : Memory) (addr : Word) : Word := combine (m.read addr) (m.read (addr + 1))

def State.setA (v : Byte) (s : State) : State := { s with a := v }

def State.setX (v : Byte) (s : State) : State := { s with x := v }

def State.setY (v : Byte) (s : State) : State := { s with y := v }

def State.setSP (v : Byte) (s : State) : State := { s with sp := v }

def State.setPC (v : Word) (s : State) : State := { s with pc := v }

def State.setP (v : Status) (s : State) : State := { s with p := v }

def State.setDec (v : DecodeState) (s : State) : State := { s with dec := v }

def State.setMem (v : Memory) (s : State) : State := { s with mem := v }

/-- `setNZ(v)` on P (R31). -/
def State.setNZ (v : Byte) (s : State) : State := s.setP (s.p.setNZ v)

/-- `MemWrite` of the running machine. -/
def State.store (addr : Word) (v : Byte) (s : State) : State := s.setMem (s.mem.write addr v)

/-- The stack address `0x0100 | SP` (R24). -/
def stackAddress (sp : Byte) : Word := 0x0100 ||| sp.setWidth 16

/-- `Push(v)` (R64): store, then decrement SP modulo 256. -/
def State.push (v : Byte) (s : State) : State := (s.store (stackAddress s.sp) v).setSP (s.sp - 1)

/-- `Pull()` (R65): increment SP modulo 256, then read; the byte and the state after. -/
def State.pull (s : State) : Byte × State :=
  (s.mem.read (stackAddress (s.sp + 1)), s.setSP (s.sp + 1))

/-- Push a 16-bit value, high byte first (R61). -/
def State.pushWord (w : Word) (s : State) : State := (s.push (highByte w)).push (lowByte w)

/-- Pull a 16-bit value, low byte first. -/
def State.pullWord (s : State) : Word × State :=
  (combine s.pull.1 s.pull.2.pull.1, s.pull.2.pull.2)

/-- `raise E(info)` (R270): the core halts and keeps the kind and record; nothing else changes. -/
def State.raise (e : Fault) (s : State) : State := { s with halted := true, fault := some e }

/-- Taking an exception, shared by BRK, IRQ and NMI (spec/45_control.md R236, R285): push PC high byte first, push the
given copy of P, set I, load PC from the vector. -/
def State.enterHandler (vector : Word) (stackedP : Byte) (s : State) : State :=
  let t := (s.pushWord s.pc).push stackedP
  (t.setP { t.p with i := true }).setPC (t.mem.readWord vector)

/-- Returning from one (R237, R289): pull P, then PC low and high, without adjustment. -/
def State.returnFromHandler (s : State) : State :=
  let t := s.pull.2.setP (Status.unpack s.pull.1)
  t.pullWord.2.setPC t.pullWord.1

/-- The vector of each kind (R285). -/
def IntKind.vector : IntKind → Word
  | .nmi => nmiVector
  | .irq => irqVector

/-- The entry sequence of IRQ and NMI (R285), less the clearing of the decode state. -/
def State.enterInterrupt (kind : IntKind) (s : State) : State :=
  s.enterHandler kind.vector s.p.stackedByInterrupt

/-- `clear_decode()` (spec/40_dispatcher.md R112, R118). -/
def State.clearDecode (s : State) : State := s.setDec DecodeState.boundary

/-- `REQUEST_INTERRUPT(kind)` after the first reset (R280, R281): NMI is always latched, IRQ only while I = 0. -/
def State.requestInterrupt (kind : IntKind) (s : State) : State :=
  match kind with
  | .nmi => { s with nmiPending := true }
  | .irq => if s.p.i then s else { s with irqPending := true }

/-- `RESET` (R300). -/
def State.applyReset (s : State) : State :=
  { s with
    pc := s.mem.readWord resetVector
    sp := 0xFD
    p := Status.afterReset
    a := 0x00
    x := 0x00
    y := 0x00
    dec := DecodeState.boundary
    nmiPending := false
    irqPending := false
    halted := false
    fault := none
    resetApplied := true }

/-- The observation port (spec/00_scope.md R6). -/
def State.observe (s : State) : Observation where
  a := s.a
  x := s.x
  y := s.y
  sp := s.sp
  pc := s.pc
  p := s.p.pack
  cycleIndex := s.dec.cycleIndex

/-- The number of a fatal error kind (R270 to R273). -/
def Fault.kind : Fault → Nat
  | .invalidOpcode _ _ => 1
  | .decimalModeUnsupported _ _ => 2
  | .memoryBoundsViolation => 3

end Sys2Proof.Machine
end

