-- ==== Sys2Proof/Machine/Operands.lean ====
section
/-! DEFINITION. Every operand form: the effective addresses (spec/40_dispatcher.md R130, R135), the operand value
(R131), the branch target (spec/00_scope.md R11), the JMP-indirect pointer (spec/45_control.md R233), and the
extra-cycle predicate (R132 to R134). -/

namespace Sys2Proof.Machine

/-- `zext_16(b)` (R11). -/
def zext16 (b : Byte) : Word := b.setWidth 16

/-- `sext_16(b)` (R11), as the 16-bit two's complement that is added to a u16. -/
def sext16 (b : Byte) : Word := b.signExtend 16

/-- The two pointer bytes at zero-page address `z`; the high byte's address wraps inside page 0 (R135). -/
def Memory.zeroPagePointer (m : Memory) (z : Byte) : Word :=
  combine (m.read (zext16 z)) (m.read (zext16 (z + 1)))

def eaZeroPage (op0 : Byte) : Word := zext16 op0

def eaZeroPageX (op0 : Byte) (s : State) : Word := zext16 (op0 + s.x)

def eaZeroPageY (op0 : Byte) (s : State) : Word := zext16 (op0 + s.y)

def eaAbsoluteX (addr : Word) (s : State) : Word := addr + zext16 s.x

def eaAbsoluteY (addr : Word) (s : State) : Word := addr + zext16 s.y

/-- (Indirect,X). -/
def eaIndirectX (op0 : Byte) (s : State) : Word := s.mem.zeroPagePointer (op0 + s.x)

/-- (Indirect),Y. -/
def eaIndirectY (op0 : Byte) (s : State) : Word := s.mem.zeroPagePointer op0 + zext16 s.y

/-- `EA` by mode (R130). The modes with no EA give 0, which no rule reads; Indirect and Relative have rules of their
own (R232, R220). -/
def effectiveAddress (mode : Mode) (op0 op1 : Byte) (s : State) : Word :=
  match mode with
  | .zeroPage => eaZeroPage op0
  | .zeroPageX => eaZeroPageX op0 s
  | .zeroPageY => eaZeroPageY op0 s
  | .absolute => combine op0 op1
  | .absoluteX => eaAbsoluteX (combine op0 op1) s
  | .absoluteY => eaAbsoluteY (combine op0 op1) s
  | .indirectX => eaIndirectX op0 s
  | .indirectY => eaIndirectY op0 s
  | .implied | .accumulator | .immediate | .indirect | .relative => 0

/-- The operand value `M` by mode (R131); in Accumulator mode the byte an instruction works on is A (R86). -/
def operandValue (mode : Mode) (op0 op1 : Byte) (s : State) : Byte :=
  match mode with
  | .immediate => op0
  | .accumulator => s.a
  | .zeroPage | .zeroPageX | .zeroPageY | .absolute | .absoluteX | .absoluteY | .indirectX | .indirectY =>
    s.mem.read (effectiveAddress mode op0 op1 s)
  | .implied | .indirect | .relative => 0

/-- The effective address of an instruction. -/
def ea (i : Instr) (s : State) : Word := effectiveAddress i.mode i.op0 i.op1 s

/-- The operand value of an instruction. -/
def operand (i : Instr) (s : State) : Byte := operandValue i.mode i.op0 i.op1 s

/-- The target of a taken branch (R130 Relative, R133): PC is the address after the branch. -/
def branchTarget (off : Byte) (s : State) : Word := s.pc + sext16 off

/-- `hi_addr(ptr)` (spec/45_control.md R233). -/
def jumpHighAddress (model : Model) (ptr : Word) : Word :=
  match model with
  | .original => (ptr &&& 0xFF00) ||| ((ptr + 1) &&& 0x00FF)
  | .with65C02Fixes => ptr + 1

/-- Whether adding an index to a low byte leaves the page: `low + index > 0xFF` (R132). -/
def crossesPage (low index : Byte) : Bool := decide (low.toNat + index.toNat > 0xFF)

/-- `extra_cycles()` (R132 to R134), read from the fetched operand bytes, PC, X, Y, P and memory as they are. -/
def extraCycles (d : Descriptor) (s : State) : Nat :=
  match d.penalty with
  | .none => 0
  | .page =>
    match d.mode with
    | .absoluteX => (crossesPage s.dec.op0 s.x).toNat
    | .absoluteY => (crossesPage s.dec.op0 s.y).toNat
    | .indirectY => (crossesPage (s.mem.read (zext16 s.dec.op0)) s.y).toNat
    | .implied | .accumulator | .immediate | .zeroPage | .zeroPageX | .zeroPageY | .absolute | .indirectX
    | .indirect | .relative => 0
  | .branch c =>
    if Cond.holds c s.p then
      if highByte (branchTarget s.dec.op0 s) = highByte s.pc then 1 else 2
    else 0

end Sys2Proof.Machine
end

