-- ==== Sys2Proof/Machine/Arith.lean ====
section
/-! DEFINITION. Addition, subtraction and comparison (spec/43_logic_arith_compare.md R184 to R189). -/

namespace Sys2Proof.Machine

/-- The binary addition of R184, flags and all. -/
def State.addToA (m : Byte) (s : State) : State :=
  (s.setP (s.p.setAdd s.a m)).setA (addByte s.a m s.p.c)

/-- An ADC or SBC body under its decimal check (R184, R185, spec/60_exceptions.md R272): with D = 1 it raises
DecimalModeUnsupported and commits nothing of its own. The record holds the opcode and the address of the opcode
byte, which is `size` bytes before PC (log 10). -/
def unlessDecimal (opcode : Byte) (size : Word) (body : State → State) (s : State) : Result :=
  if s.p.d then .next (s.raise (.decimalModeUnsupported opcode (s.pc - size))) else .next (body s)

/-- ADC (R184). -/
def adc (opcode : Byte) (size : Word) (m : Byte) (s : State) : Result :=
  unlessDecimal opcode size (State.addToA m) s

/-- SBC (R185): the one's complement of the operand is added. -/
def sbc (opcode : Byte) (size : Word) (m : Byte) (s : State) : Result :=
  unlessDecimal opcode size (State.addToA (~~~m)) s

/-- CMP, CPX and CPY write flags only (R186 to R188). -/
def State.compare (reg m : Byte) (s : State) : State := s.setP (s.p.setCompare reg m)

/-- ADC Immediate, R184. -/
def execAdcImm (op0 : Byte) (s : State) : Result := adc 0x69 2 op0 s

/-- ADC Zero-page, R184. -/
def execAdcZp (op0 : Byte) (s : State) : Result := adc 0x65 2 (s.mem.read (eaZeroPage op0)) s

/-- ADC Zero-page,X, R184. -/
def execAdcZpX (op0 : Byte) (s : State) : Result := adc 0x75 2 (s.mem.read (eaZeroPageX op0 s)) s

/-- ADC Absolute, R184. -/
def execAdcAbs (addr : Word) (s : State) : Result := adc 0x6D 3 (s.mem.read addr) s

/-- ADC Absolute,X, R184. -/
def execAdcAbsX (addr : Word) (s : State) : Result := adc 0x7D 3 (s.mem.read (eaAbsoluteX addr s)) s

/-- ADC Absolute,Y, R184. -/
def execAdcAbsY (addr : Word) (s : State) : Result := adc 0x79 3 (s.mem.read (eaAbsoluteY addr s)) s

/-- ADC (Indirect,X), R184. -/
def execAdcIndX (op0 : Byte) (s : State) : Result := adc 0x61 2 (s.mem.read (eaIndirectX op0 s)) s

/-- ADC (Indirect),Y, R184. -/
def execAdcIndY (op0 : Byte) (s : State) : Result := adc 0x71 2 (s.mem.read (eaIndirectY op0 s)) s

/-- SBC Immediate, R185. -/
def execSbcImm (op0 : Byte) (s : State) : Result := sbc 0xE9 2 op0 s

/-- SBC Zero-page, R185. -/
def execSbcZp (op0 : Byte) (s : State) : Result := sbc 0xE5 2 (s.mem.read (eaZeroPage op0)) s

/-- SBC Zero-page,X, R185. -/
def execSbcZpX (op0 : Byte) (s : State) : Result := sbc 0xF5 2 (s.mem.read (eaZeroPageX op0 s)) s

/-- SBC Absolute, R185. -/
def execSbcAbs (addr : Word) (s : State) : Result := sbc 0xED 3 (s.mem.read addr) s

/-- SBC Absolute,X, R185. -/
def execSbcAbsX (addr : Word) (s : State) : Result := sbc 0xFD 3 (s.mem.read (eaAbsoluteX addr s)) s

/-- SBC Absolute,Y, R185. -/
def execSbcAbsY (addr : Word) (s : State) : Result := sbc 0xF9 3 (s.mem.read (eaAbsoluteY addr s)) s

/-- SBC (Indirect,X), R185. -/
def execSbcIndX (op0 : Byte) (s : State) : Result := sbc 0xE1 2 (s.mem.read (eaIndirectX op0 s)) s

/-- SBC (Indirect),Y, R185. -/
def execSbcIndY (op0 : Byte) (s : State) : Result := sbc 0xF1 2 (s.mem.read (eaIndirectY op0 s)) s

/-- CMP Immediate, R186. -/
def execCmpImm (op0 : Byte) (s : State) : Result := .next (s.compare s.a op0)

/-- CMP Zero-page, R186. -/
def execCmpZp (op0 : Byte) (s : State) : Result := .next (s.compare s.a (s.mem.read (eaZeroPage op0)))

/-- CMP Zero-page,X, R186. -/
def execCmpZpX (op0 : Byte) (s : State) : Result := .next (s.compare s.a (s.mem.read (eaZeroPageX op0 s)))

/-- CMP Absolute, R186. -/
def execCmpAbs (addr : Word) (s : State) : Result := .next (s.compare s.a (s.mem.read addr))

/-- CMP Absolute,X, R186. -/
def execCmpAbsX (addr : Word) (s : State) : Result := .next (s.compare s.a (s.mem.read (eaAbsoluteX addr s)))

/-- CMP Absolute,Y, R186. -/
def execCmpAbsY (addr : Word) (s : State) : Result := .next (s.compare s.a (s.mem.read (eaAbsoluteY addr s)))

/-- CMP (Indirect,X), R186. -/
def execCmpIndX (op0 : Byte) (s : State) : Result := .next (s.compare s.a (s.mem.read (eaIndirectX op0 s)))

/-- CMP (Indirect),Y, R186. -/
def execCmpIndY (op0 : Byte) (s : State) : Result := .next (s.compare s.a (s.mem.read (eaIndirectY op0 s)))

/-- CPX Immediate, R187. -/
def execCpxImm (op0 : Byte) (s : State) : Result := .next (s.compare s.x op0)

/-- CPX Zero-page, R187. -/
def execCpxZp (op0 : Byte) (s : State) : Result := .next (s.compare s.x (s.mem.read (eaZeroPage op0)))

/-- CPX Absolute, R187. -/
def execCpxAbs (addr : Word) (s : State) : Result := .next (s.compare s.x (s.mem.read addr))

/-- CPY Immediate, R188. -/
def execCpyImm (op0 : Byte) (s : State) : Result := .next (s.compare s.y op0)

/-- CPY Zero-page, R188. -/
def execCpyZp (op0 : Byte) (s : State) : Result := .next (s.compare s.y (s.mem.read (eaZeroPage op0)))

/-- CPY Absolute, R188. -/
def execCpyAbs (addr : Word) (s : State) : Result := .next (s.compare s.y (s.mem.read addr))

end Sys2Proof.Machine
end

