-- ==== Sys2Proof/Machine/Branch.lean ====
section
/-! DEFINITION. The conditional branches (spec/45_control.md R220 to R228). -/

namespace Sys2Proof.Machine

/-- The common branch action (R220): PC is the address after the branch. -/
def State.branchIf (c : Cond) (off : Byte) (s : State) : State :=
  if Cond.holds c s.p then s.setPC (branchTarget off s) else s

/-- BPL Relative, R221. -/
def execBpl (off : Byte) (s : State) : Result := .next (s.branchIf .pl off)

/-- BMI Relative, R222. -/
def execBmi (off : Byte) (s : State) : Result := .next (s.branchIf .mi off)

/-- BVC Relative, R223. -/
def execBvc (off : Byte) (s : State) : Result := .next (s.branchIf .vc off)

/-- BVS Relative, R224. -/
def execBvs (off : Byte) (s : State) : Result := .next (s.branchIf .vs off)

/-- BCC Relative, R225. -/
def execBcc (off : Byte) (s : State) : Result := .next (s.branchIf .cc off)

/-- BCS Relative, R226. -/
def execBcs (off : Byte) (s : State) : Result := .next (s.branchIf .cs off)

/-- BNE Relative, R227. -/
def execBne (off : Byte) (s : State) : Result := .next (s.branchIf .ne off)

/-- BEQ Relative, R228. -/
def execBeq (off : Byte) (s : State) : Result := .next (s.branchIf .eq off)

end Sys2Proof.Machine
end

