-- ==== Sys2Proof/Machine/Control.lean ====
section
/-! DEFINITION. Jumps, subroutines, BRK and RTI (spec/45_control.md R231 to R237). -/

namespace Sys2Proof.Machine

/-- The target of JMP indirect (R232): the low byte at `ptr`, the high byte where R233 says. -/
def jumpTarget (ptr : Word) (s : State) : Word :=
  combine (s.mem.read ptr) (s.mem.read (jumpHighAddress s.model ptr))

/-- JMP Absolute, R231. -/
def execJmpAbs (addr : Word) (s : State) : Result := .next (s.setPC addr)

/-- JMP Indirect, R232. -/
def execJmpInd (addr : Word) (s : State) : Result := .next (s.setPC (jumpTarget addr s))

/-- JSR Absolute, R234. PC is the address after JSR, so PC - 1 is its last byte. -/
def execJsr (addr : Word) (s : State) : Result := .next ((s.pushWord (s.pc - 1)).setPC addr)

/-- RTS Implied, R235. The +1 applies to the full 16-bit value. -/
def execRts (s : State) : Result := .next (s.pullWord.2.setPC (s.pullWord.1 + 1))

/-- BRK Implied, R236. The padding byte is skipped first; B = 1 on the stacked copy. -/
def execBrk (s : State) : Result := .next ((s.setPC (s.pc + 1)).enterHandler irqVector s.p.stackedByProgram)

/-- RTI Implied, R237. -/
def execRti (s : State) : Result := .next s.returnFromHandler

end Sys2Proof.Machine
end

