-- ==== Sys2Proof/Machine/FlagOps.lean ====
section
/-! DEFINITION. Flag instructions, SED and NOP (spec/46_flags_nop.md R250 to R257). -/

namespace Sys2Proof.Machine

/-- CLC Implied, R250. -/
def execClc (s : State) : Result := .next (s.setP { s.p with c := false })

/-- SEC Implied, R251. -/
def execSec (s : State) : Result := .next (s.setP { s.p with c := true })

/-- CLI Implied, R252. -/
def execCli (s : State) : Result := .next (s.setP { s.p with i := false })

/-- SEI Implied, R253. -/
def execSei (s : State) : Result := .next (s.setP { s.p with i := true })

/-- CLV Implied, R254. -/
def execClv (s : State) : Result := .next (s.setP { s.p with v := false })

/-- CLD Implied, R255. -/
def execCld (s : State) : Result := .next (s.setP { s.p with d := false })

/-- SED Implied, R256. It raises DecimalModeUnsupported whatever D holds and writes nothing else (spec/60_exceptions.md R272). -/
def execSed (s : State) : Result := .next (s.raise (.decimalModeUnsupported 0xF8 (s.pc - 1)))

/-- NOP Implied, R257. -/
def execNop (s : State) : Result := .next s

end Sys2Proof.Machine
end

