-- ==== Sys2Proof/Machine/LoadStore.lean ====
section
/-! DEFINITION. Loads and stores (spec/41_load_store.md R150 to R155). `M` and `EA` are R131 and R130. -/

namespace Sys2Proof.Machine

/-- `A <- M; setNZ(A)` (R150). -/
def State.loadA (m : Byte) (s : State) : State := (s.setA m).setNZ m

/-- `X <- M; setNZ(X)` (R151). -/
def State.loadX (m : Byte) (s : State) : State := (s.setX m).setNZ m

/-- `Y <- M; setNZ(Y)` (R152). -/
def State.loadY (m : Byte) (s : State) : State := (s.setY m).setNZ m

/-- LDA Immediate, R150. -/
def execLdaImm (op0 : Byte) (s : State) : Result := .next (s.loadA op0)

/-- LDA Zero-page, R150. -/
def execLdaZp (op0 : Byte) (s : State) : Result := .next (s.loadA (s.mem.read (eaZeroPage op0)))

/-- LDA Zero-page,X, R150. -/
def execLdaZpX (op0 : Byte) (s : State) : Result := .next (s.loadA (s.mem.read (eaZeroPageX op0 s)))

/-- LDA Absolute, R150. -/
def execLdaAbs (addr : Word) (s : State) : Result := .next (s.loadA (s.mem.read addr))

/-- LDA Absolute,X, R150. -/
def execLdaAbsX (addr : Word) (s : State) : Result := .next (s.loadA (s.mem.read (eaAbsoluteX addr s)))

/-- LDA Absolute,Y, R150. -/
def execLdaAbsY (addr : Word) (s : State) : Result := .next (s.loadA (s.mem.read (eaAbsoluteY addr s)))

/-- LDA (Indirect,X), R150. -/
def execLdaIndX (op0 : Byte) (s : State) : Result := .next (s.loadA (s.mem.read (eaIndirectX op0 s)))

/-- LDA (Indirect),Y, R150. -/
def execLdaIndY (op0 : Byte) (s : State) : Result := .next (s.loadA (s.mem.read (eaIndirectY op0 s)))

/-- LDX Immediate, R151. -/
def execLdxImm (op0 : Byte) (s : State) : Result := .next (s.loadX op0)

/-- LDX Zero-page, R151. -/
def execLdxZp (op0 : Byte) (s : State) : Result := .next (s.loadX (s.mem.read (eaZeroPage op0)))

/-- LDX Zero-page,Y, R151. -/
def execLdxZpY (op0 : Byte) (s : State) : Result := .next (s.loadX (s.mem.read (eaZeroPageY op0 s)))

/-- LDX Absolute, R151. -/
def execLdxAbs (addr : Word) (s : State) : Result := .next (s.loadX (s.mem.read addr))

/-- LDX Absolute,Y, R151. -/
def execLdxAbsY (addr : Word) (s : State) : Result := .next (s.loadX (s.mem.read (eaAbsoluteY addr s)))

/-- LDY Immediate, R152. -/
def execLdyImm (op0 : Byte) (s : State) : Result := .next (s.loadY op0)

/-- LDY Zero-page, R152. -/
def execLdyZp (op0 : Byte) (s : State) : Result := .next (s.loadY (s.mem.read (eaZeroPage op0)))

/-- LDY Zero-page,X, R152. -/
def execLdyZpX (op0 : Byte) (s : State) : Result := .next (s.loadY (s.mem.read (eaZeroPageX op0 s)))

/-- LDY Absolute, R152. -/
def execLdyAbs (addr : Word) (s : State) : Result := .next (s.loadY (s.mem.read addr))

/-- LDY Absolute,X, R152. -/
def execLdyAbsX (addr : Word) (s : State) : Result := .next (s.loadY (s.mem.read (eaAbsoluteX addr s)))

/-- STA Zero-page, R153. -/
def execStaZp (op0 : Byte) (s : State) : Result := .next (s.store (eaZeroPage op0) s.a)

/-- STA Zero-page,X, R153. -/
def execStaZpX (op0 : Byte) (s : State) : Result := .next (s.store (eaZeroPageX op0 s) s.a)

/-- STA Absolute, R153. -/
def execStaAbs (addr : Word) (s : State) : Result := .next (s.store addr s.a)

/-- STA Absolute,X, R153. -/
def execStaAbsX (addr : Word) (s : State) : Result := .next (s.store (eaAbsoluteX addr s) s.a)

/-- STA Absolute,Y, R153. -/
def execStaAbsY (addr : Word) (s : State) : Result := .next (s.store (eaAbsoluteY addr s) s.a)

/-- STA (Indirect,X), R153. -/
def execStaIndX (op0 : Byte) (s : State) : Result := .next (s.store (eaIndirectX op0 s) s.a)

/-- STA (Indirect),Y, R153. -/
def execStaIndY (op0 : Byte) (s : State) : Result := .next (s.store (eaIndirectY op0 s) s.a)

/-- STX Zero-page, R154. -/
def execStxZp (op0 : Byte) (s : State) : Result := .next (s.store (eaZeroPage op0) s.x)

/-- STX Zero-page,Y, R154. -/
def execStxZpY (op0 : Byte) (s : State) : Result := .next (s.store (eaZeroPageY op0 s) s.x)

/-- STX Absolute, R154. -/
def execStxAbs (addr : Word) (s : State) : Result := .next (s.store addr s.x)

/-- STY Zero-page, R155. -/
def execStyZp (op0 : Byte) (s : State) : Result := .next (s.store (eaZeroPage op0) s.y)

/-- STY Zero-page,X, R155. -/
def execStyZpX (op0 : Byte) (s : State) : Result := .next (s.store (eaZeroPageX op0 s) s.y)

/-- STY Absolute, R155. -/
def execStyAbs (addr : Word) (s : State) : Result := .next (s.store addr s.y)

end Sys2Proof.Machine
end

