-- ==== Sys2Proof/Machine/IncDec.lean ====
section
/-! DEFINITION. Increments and decrements (spec/44_shift_incdec.md R204 to R209). -/

namespace Sys2Proof.Machine

/-- Replace the byte at `addr` by `r` of it; N and Z follow the new byte (R204, R205). -/
def State.modifyAt (r : Byte → Byte) (addr : Word) (s : State) : State :=
  (s.store addr (r (s.mem.read addr))).setNZ (r (s.mem.read addr))

/-- INC Zero-page, R204. -/
def execIncZp (op0 : Byte) (s : State) : Result := .next (s.modifyAt (· + 1) (eaZeroPage op0))

/-- INC Zero-page,X, R204. -/
def execIncZpX (op0 : Byte) (s : State) : Result := .next (s.modifyAt (· + 1) (eaZeroPageX op0 s))

/-- INC Absolute, R204. -/
def execIncAbs (addr : Word) (s : State) : Result := .next (s.modifyAt (· + 1) addr)

/-- INC Absolute,X, R204. -/
def execIncAbsX (addr : Word) (s : State) : Result := .next (s.modifyAt (· + 1) (eaAbsoluteX addr s))

/-- DEC Zero-page, R205. -/
def execDecZp (op0 : Byte) (s : State) : Result := .next (s.modifyAt (· - 1) (eaZeroPage op0))

/-- DEC Zero-page,X, R205. -/
def execDecZpX (op0 : Byte) (s : State) : Result := .next (s.modifyAt (· - 1) (eaZeroPageX op0 s))

/-- DEC Absolute, R205. -/
def execDecAbs (addr : Word) (s : State) : Result := .next (s.modifyAt (· - 1) addr)

/-- DEC Absolute,X, R205. -/
def execDecAbsX (addr : Word) (s : State) : Result := .next (s.modifyAt (· - 1) (eaAbsoluteX addr s))

/-- INX Implied, R206. -/
def execInx (s : State) : Result := .next (s.loadX (s.x + 1))

/-- DEX Implied, R207. -/
def execDex (s : State) : Result := .next (s.loadX (s.x - 1))

/-- INY Implied, R208. -/
def execIny (s : State) : Result := .next (s.loadY (s.y + 1))

/-- DEY Implied, R209. -/
def execDey (s : State) : Result := .next (s.loadY (s.y - 1))

end Sys2Proof.Machine
end

