-- ==== Sys2Proof/Machine/Logic.lean ====
section
/-! DEFINITION. Bitwise logic and BIT (spec/43_logic_arith_compare.md R180 to R183). -/

namespace Sys2Proof.Machine

/-- BIT writes three flags and no register (R183). -/
def State.testBits (m : Byte) (s : State) : State := s.setP (s.p.setBit s.a m)

/-- AND Immediate, R180. -/
def execAndImm (op0 : Byte) (s : State) : Result := .next (s.loadA (s.a &&& op0))

/-- AND Zero-page, R180. -/
def execAndZp (op0 : Byte) (s : State) : Result := .next (s.loadA (s.a &&& (s.mem.read (eaZeroPage op0))))

/-- AND Zero-page,X, R180. -/
def execAndZpX (op0 : Byte) (s : State) : Result := .next (s.loadA (s.a &&& (s.mem.read (eaZeroPageX op0 s))))

/-- AND Absolute, R180. -/
def execAndAbs (addr : Word) (s : State) : Result := .next (s.loadA (s.a &&& (s.mem.read addr)))

/-- AND Absolute,X, R180. -/
def execAndAbsX (addr : Word) (s : State) : Result := .next (s.loadA (s.a &&& (s.mem.read (eaAbsoluteX addr s))))

/-- AND Absolute,Y, R180. -/
def execAndAbsY (addr : Word) (s : State) : Result := .next (s.loadA (s.a &&& (s.mem.read (eaAbsoluteY addr s))))

/-- AND (Indirect,X), R180. -/
def execAndIndX (op0 : Byte) (s : State) : Result := .next (s.loadA (s.a &&& (s.mem.read (eaIndirectX op0 s))))

/-- AND (Indirect),Y, R180. -/
def execAndIndY (op0 : Byte) (s : State) : Result := .next (s.loadA (s.a &&& (s.mem.read (eaIndirectY op0 s))))

/-- ORA Immediate, R181. -/
def execOraImm (op0 : Byte) (s : State) : Result := .next (s.loadA (s.a ||| op0))

/-- ORA Zero-page, R181. -/
def execOraZp (op0 : Byte) (s : State) : Result := .next (s.loadA (s.a ||| (s.mem.read (eaZeroPage op0))))

/-- ORA Zero-page,X, R181. -/
def execOraZpX (op0 : Byte) (s : State) : Result := .next (s.loadA (s.a ||| (s.mem.read (eaZeroPageX op0 s))))

/-- ORA Absolute, R181. -/
def execOraAbs (addr : Word) (s : State) : Result := .next (s.loadA (s.a ||| (s.mem.read addr)))

/-- ORA Absolute,X, R181. -/
def execOraAbsX (addr : Word) (s : State) : Result := .next (s.loadA (s.a ||| (s.mem.read (eaAbsoluteX addr s))))

/-- ORA Absolute,Y, R181. -/
def execOraAbsY (addr : Word) (s : State) : Result := .next (s.loadA (s.a ||| (s.mem.read (eaAbsoluteY addr s))))

/-- ORA (Indirect,X), R181. -/
def execOraIndX (op0 : Byte) (s : State) : Result := .next (s.loadA (s.a ||| (s.mem.read (eaIndirectX op0 s))))

/-- ORA (Indirect),Y, R181. -/
def execOraIndY (op0 : Byte) (s : State) : Result := .next (s.loadA (s.a ||| (s.mem.read (eaIndirectY op0 s))))

/-- EOR Immediate, R182. -/
def execEorImm (op0 : Byte) (s : State) : Result := .next (s.loadA (s.a ^^^ op0))

/-- EOR Zero-page, R182. -/
def execEorZp (op0 : Byte) (s : State) : Result := .next (s.loadA (s.a ^^^ (s.mem.read (eaZeroPage op0))))

/-- EOR Zero-page,X, R182. -/
def execEorZpX (op0 : Byte) (s : State) : Result := .next (s.loadA (s.a ^^^ (s.mem.read (eaZeroPageX op0 s))))

/-- EOR Absolute, R182. -/
def execEorAbs (addr : Word) (s : State) : Result := .next (s.loadA (s.a ^^^ (s.mem.read addr)))

/-- EOR Absolute,X, R182. -/
def execEorAbsX (addr : Word) (s : State) : Result := .next (s.loadA (s.a ^^^ (s.mem.read (eaAbsoluteX addr s))))

/-- EOR Absolute,Y, R182. -/
def execEorAbsY (addr : Word) (s : State) : Result := .next (s.loadA (s.a ^^^ (s.mem.read (eaAbsoluteY addr s))))

/-- EOR (Indirect,X), R182. -/
def execEorIndX (op0 : Byte) (s : State) : Result := .next (s.loadA (s.a ^^^ (s.mem.read (eaIndirectX op0 s))))

/-- EOR (Indirect),Y, R182. -/
def execEorIndY (op0 : Byte) (s : State) : Result := .next (s.loadA (s.a ^^^ (s.mem.read (eaIndirectY op0 s))))

/-- BIT Zero-page, R183. -/
def execBitZp (op0 : Byte) (s : State) : Result := .next (s.testBits (s.mem.read (eaZeroPage op0)))

/-- BIT Absolute, R183. -/
def execBitAbs (addr : Word) (s : State) : Result := .next (s.testBits (s.mem.read addr))

end Sys2Proof.Machine
end

