-- ==== Sys2Proof/Machine/Shift.lean ====
section
/-! DEFINITION. Shifts and rotates, on A or on memory (spec/44_shift_incdec.md R200 to R203). -/

namespace Sys2Proof.Machine

/-- Accumulator mode: the shifted byte goes to A; C, N and Z follow it (R200 to R203). -/
def State.shiftA (f : Shifter) (s : State) : State :=
  let r := f s.a s.p.c
  (s.setP (s.p.setNZC r.1 r.2)).setA r.1

/-- Memory modes: one read and one write of the byte at `addr` (R200 to R203, spec/20_memory.md R63). -/
def State.shiftAt (f : Shifter) (addr : Word) (s : State) : State :=
  let r := f (s.mem.read addr) s.p.c
  (s.setP (s.p.setNZC r.1 r.2)).store addr r.1

/-- ASL Accumulator, R200. -/
def execAslA (s : State) : Result := .next (s.shiftA aslByte)

/-- ASL Zero-page, R200. -/
def execAslZp (op0 : Byte) (s : State) : Result := .next (s.shiftAt aslByte (eaZeroPage op0))

/-- ASL Zero-page,X, R200. -/
def execAslZpX (op0 : Byte) (s : State) : Result := .next (s.shiftAt aslByte (eaZeroPageX op0 s))

/-- ASL Absolute, R200. -/
def execAslAbs (addr : Word) (s : State) : Result := .next (s.shiftAt aslByte addr)

/-- ASL Absolute,X, R200. -/
def execAslAbsX (addr : Word) (s : State) : Result := .next (s.shiftAt aslByte (eaAbsoluteX addr s))

/-- LSR Accumulator, R201. -/
def execLsrA (s : State) : Result := .next (s.shiftA lsrByte)

/-- LSR Zero-page, R201. -/
def execLsrZp (op0 : Byte) (s : State) : Result := .next (s.shiftAt lsrByte (eaZeroPage op0))

/-- LSR Zero-page,X, R201. -/
def execLsrZpX (op0 : Byte) (s : State) : Result := .next (s.shiftAt lsrByte (eaZeroPageX op0 s))

/-- LSR Absolute, R201. -/
def execLsrAbs (addr : Word) (s : State) : Result := .next (s.shiftAt lsrByte addr)

/-- LSR Absolute,X, R201. -/
def execLsrAbsX (addr : Word) (s : State) : Result := .next (s.shiftAt lsrByte (eaAbsoluteX addr s))

/-- ROL Accumulator, R202. -/
def execRolA (s : State) : Result := .next (s.shiftA rolByte)

/-- ROL Zero-page, R202. -/
def execRolZp (op0 : Byte) (s : State) : Result := .next (s.shiftAt rolByte (eaZeroPage op0))

/-- ROL Zero-page,X, R202. -/
def execRolZpX (op0 : Byte) (s : State) : Result := .next (s.shiftAt rolByte (eaZeroPageX op0 s))

/-- ROL Absolute, R202. -/
def execRolAbs (addr : Word) (s : State) : Result := .next (s.shiftAt rolByte addr)

/-- ROL Absolute,X, R202. -/
def execRolAbsX (addr : Word) (s : State) : Result := .next (s.shiftAt rolByte (eaAbsoluteX addr s))

/-- ROR Accumulator, R203. -/
def execRorA (s : State) : Result := .next (s.shiftA rorByte)

/-- ROR Zero-page, R203. -/
def execRorZp (op0 : Byte) (s : State) : Result := .next (s.shiftAt rorByte (eaZeroPage op0))

/-- ROR Zero-page,X, R203. -/
def execRorZpX (op0 : Byte) (s : State) : Result := .next (s.shiftAt rorByte (eaZeroPageX op0 s))

/-- ROR Absolute, R203. -/
def execRorAbs (addr : Word) (s : State) : Result := .next (s.shiftAt rorByte addr)

/-- ROR Absolute,X, R203. -/
def execRorAbsX (addr : Word) (s : State) : Result := .next (s.shiftAt rorByte (eaAbsoluteX addr s))

end Sys2Proof.Machine
end

