-- ==== Sys2Proof/Machine/TransferStack.lean ====
section
/-! DEFINITION. Register transfers and stack instructions (spec/42_transfer_stack.md R160 to R169). -/

namespace Sys2Proof.Machine

/-- TAX Implied, R160. -/
def execTax (s : State) : Result := .next (s.loadX s.a)

/-- TAY Implied, R161. -/
def execTay (s : State) : Result := .next (s.loadY s.a)

/-- TXA Implied, R162. -/
def execTxa (s : State) : Result := .next (s.loadA s.x)

/-- TYA Implied, R163. -/
def execTya (s : State) : Result := .next (s.loadA s.y)

/-- TSX Implied, R164. -/
def execTsx (s : State) : Result := .next (s.loadX s.sp)

/-- TXS Implied, R165. No flag. -/
def execTxs (s : State) : Result := .next (s.setSP s.x)

/-- PHA Implied, R166. -/
def execPha (s : State) : Result := .next (s.push s.a)

/-- PHP Implied, R167. Bits 5 and 4 of the pushed byte are 1. -/
def execPhp (s : State) : Result := .next (s.push s.p.stackedByProgram)

/-- PLA Implied, R168. -/
def execPla (s : State) : Result := .next (s.pull.2.loadA s.pull.1)

/-- PLP Implied, R169. -/
def execPlp (s : State) : Result := .next (s.pull.2.setP (Status.unpack s.pull.1))

end Sys2Proof.Machine
end

