-- ==== Sys2Proof/Machine/Dispatch.lean ====
section
/-! DEFINITION. The execute action of every instruction (spec/30_encoding.md R89), run at retirement: PC is then the
address after the instruction (spec/00_scope.md R14). One arm per constructor of `Instr`. -/

namespace Sys2Proof.Machine

def exec (i : Instr) (s : State) : Host.Outcome State Fault Refusal :=
  match i with
  | .ldaImm op0 => Sys2Proof.Machine.execLdaImm op0 s
  | .ldaZp op0 => Sys2Proof.Machine.execLdaZp op0 s
  | .ldaZpX op0 => Sys2Proof.Machine.execLdaZpX op0 s
  | .ldaAbs addr => Sys2Proof.Machine.execLdaAbs addr s
  | .ldaAbsX addr => Sys2Proof.Machine.execLdaAbsX addr s
  | .ldaAbsY addr => Sys2Proof.Machine.execLdaAbsY addr s
  | .ldaIndX op0 => Sys2Proof.Machine.execLdaIndX op0 s
  | .ldaIndY op0 => Sys2Proof.Machine.execLdaIndY op0 s
  | .ldxImm op0 => Sys2Proof.Machine.execLdxImm op0 s
  | .ldxZp op0 => Sys2Proof.Machine.execLdxZp op0 s
  | .ldxZpY op0 => Sys2Proof.Machine.execLdxZpY op0 s
  | .ldxAbs addr => Sys2Proof.Machine.execLdxAbs addr s
  | .ldxAbsY addr => Sys2Proof.Machine.execLdxAbsY addr s
  | .ldyImm op0 => Sys2Proof.Machine.execLdyImm op0 s
  | .ldyZp op0 => Sys2Proof.Machine.execLdyZp op0 s
  | .ldyZpX op0 => Sys2Proof.Machine.execLdyZpX op0 s
  | .ldyAbs addr => Sys2Proof.Machine.execLdyAbs addr s
  | .ldyAbsX addr => Sys2Proof.Machine.execLdyAbsX addr s
  | .staZp op0 => Sys2Proof.Machine.execStaZp op0 s
  | .staZpX op0 => Sys2Proof.Machine.execStaZpX op0 s
  | .staAbs addr => Sys2Proof.Machine.execStaAbs addr s
  | .staAbsX addr => Sys2Proof.Machine.execStaAbsX addr s
  | .staAbsY addr => Sys2Proof.Machine.execStaAbsY addr s
  | .staIndX op0 => Sys2Proof.Machine.execStaIndX op0 s
  | .staIndY op0 => Sys2Proof.Machine.execStaIndY op0 s
  | .stxZp op0 => Sys2Proof.Machine.execStxZp op0 s
  | .stxZpY op0 => Sys2Proof.Machine.execStxZpY op0 s
  | .stxAbs addr => Sys2Proof.Machine.execStxAbs addr s
  | .styZp op0 => Sys2Proof.Machine.execStyZp op0 s
  | .styZpX op0 => Sys2Proof.Machine.execStyZpX op0 s
  | .styAbs addr => Sys2Proof.Machine.execStyAbs addr s
  | .tax => Sys2Proof.Machine.execTax s
  | .tay => Sys2Proof.Machine.execTay s
  | .txa => Sys2Proof.Machine.execTxa s
  | .tya => Sys2Proof.Machine.execTya s
  | .tsx => Sys2Proof.Machine.execTsx s
  | .txs => Sys2Proof.Machine.execTxs s
  | .pha => Sys2Proof.Machine.execPha s
  | .php => Sys2Proof.Machine.execPhp s
  | .pla => Sys2Proof.Machine.execPla s
  | .plp => Sys2Proof.Machine.execPlp s
  | .andImm op0 => Sys2Proof.Machine.execAndImm op0 s
  | .andZp op0 => Sys2Proof.Machine.execAndZp op0 s
  | .andZpX op0 => Sys2Proof.Machine.execAndZpX op0 s
  | .andAbs addr => Sys2Proof.Machine.execAndAbs addr s
  | .andAbsX addr => Sys2Proof.Machine.execAndAbsX addr s
  | .andAbsY addr => Sys2Proof.Machine.execAndAbsY addr s
  | .andIndX op0 => Sys2Proof.Machine.execAndIndX op0 s
  | .andIndY op0 => Sys2Proof.Machine.execAndIndY op0 s
  | .oraImm op0 => Sys2Proof.Machine.execOraImm op0 s
  | .oraZp op0 => Sys2Proof.Machine.execOraZp op0 s
  | .oraZpX op0 => Sys2Proof.Machine.execOraZpX op0 s
  | .oraAbs addr => Sys2Proof.Machine.execOraAbs addr s
  | .oraAbsX addr => Sys2Proof.Machine.execOraAbsX addr s
  | .oraAbsY addr => Sys2Proof.Machine.execOraAbsY addr s
  | .oraIndX op0 => Sys2Proof.Machine.execOraIndX op0 s
  | .oraIndY op0 => Sys2Proof.Machine.execOraIndY op0 s
  | .eorImm op0 => Sys2Proof.Machine.execEorImm op0 s
  | .eorZp op0 => Sys2Proof.Machine.execEorZp op0 s
  | .eorZpX op0 => Sys2Proof.Machine.execEorZpX op0 s
  | .eorAbs addr => Sys2Proof.Machine.execEorAbs addr s
  | .eorAbsX addr => Sys2Proof.Machine.execEorAbsX addr s
  | .eorAbsY addr => Sys2Proof.Machine.execEorAbsY addr s
  | .eorIndX op0 => Sys2Proof.Machine.execEorIndX op0 s
  | .eorIndY op0 => Sys2Proof.Machine.execEorIndY op0 s
  | .bitZp op0 => Sys2Proof.Machine.execBitZp op0 s
  | .bitAbs addr => Sys2Proof.Machine.execBitAbs addr s
  | .adcImm op0 => Sys2Proof.Machine.execAdcImm op0 s
  | .adcZp op0 => Sys2Proof.Machine.execAdcZp op0 s
  | .adcZpX op0 => Sys2Proof.Machine.execAdcZpX op0 s
  | .adcAbs addr => Sys2Proof.Machine.execAdcAbs addr s
  | .adcAbsX addr => Sys2Proof.Machine.execAdcAbsX addr s
  | .adcAbsY addr => Sys2Proof.Machine.execAdcAbsY addr s
  | .adcIndX op0 => Sys2Proof.Machine.execAdcIndX op0 s
  | .adcIndY op0 => Sys2Proof.Machine.execAdcIndY op0 s
  | .sbcImm op0 => Sys2Proof.Machine.execSbcImm op0 s
  | .sbcZp op0 => Sys2Proof.Machine.execSbcZp op0 s
  | .sbcZpX op0 => Sys2Proof.Machine.execSbcZpX op0 s
  | .sbcAbs addr => Sys2Proof.Machine.execSbcAbs addr s
  | .sbcAbsX addr => Sys2Proof.Machine.execSbcAbsX addr s
  | .sbcAbsY addr => Sys2Proof.Machine.execSbcAbsY addr s
  | .sbcIndX op0 => Sys2Proof.Machine.execSbcIndX op0 s
  | .sbcIndY op0 => Sys2Proof.Machine.execSbcIndY op0 s
  | .cmpImm op0 => Sys2Proof.Machine.execCmpImm op0 s
  | .cmpZp op0 => Sys2Proof.Machine.execCmpZp op0 s
  | .cmpZpX op0 => Sys2Proof.Machine.execCmpZpX op0 s
  | .cmpAbs addr => Sys2Proof.Machine.execCmpAbs addr s
  | .cmpAbsX addr => Sys2Proof.Machine.execCmpAbsX addr s
  | .cmpAbsY addr => Sys2Proof.Machine.execCmpAbsY addr s
  | .cmpIndX op0 => Sys2Proof.Machine.execCmpIndX op0 s
  | .cmpIndY op0 => Sys2Proof.Machine.execCmpIndY op0 s
  | .cpxImm op0 => Sys2Proof.Machine.execCpxImm op0 s
  | .cpxZp op0 => Sys2Proof.Machine.execCpxZp op0 s
  | .cpxAbs addr => Sys2Proof.Machine.execCpxAbs addr s
  | .cpyImm op0 => Sys2Proof.Machine.execCpyImm op0 s
  | .cpyZp op0 => Sys2Proof.Machine.execCpyZp op0 s
  | .cpyAbs addr => Sys2Proof.Machine.execCpyAbs addr s
  | .aslA => Sys2Proof.Machine.execAslA s
  | .aslZp op0 => Sys2Proof.Machine.execAslZp op0 s
  | .aslZpX op0 => Sys2Proof.Machine.execAslZpX op0 s
  | .aslAbs addr => Sys2Proof.Machine.execAslAbs addr s
  | .aslAbsX addr => Sys2Proof.Machine.execAslAbsX addr s
  | .lsrA => Sys2Proof.Machine.execLsrA s
  | .lsrZp op0 => Sys2Proof.Machine.execLsrZp op0 s
  | .lsrZpX op0 => Sys2Proof.Machine.execLsrZpX op0 s
  | .lsrAbs addr => Sys2Proof.Machine.execLsrAbs addr s
  | .lsrAbsX addr => Sys2Proof.Machine.execLsrAbsX addr s
  | .rolA => Sys2Proof.Machine.execRolA s
  | .rolZp op0 => Sys2Proof.Machine.execRolZp op0 s
  | .rolZpX op0 => Sys2Proof.Machine.execRolZpX op0 s
  | .rolAbs addr => Sys2Proof.Machine.execRolAbs addr s
  | .rolAbsX addr => Sys2Proof.Machine.execRolAbsX addr s
  | .rorA => Sys2Proof.Machine.execRorA s
  | .rorZp op0 => Sys2Proof.Machine.execRorZp op0 s
  | .rorZpX op0 => Sys2Proof.Machine.execRorZpX op0 s
  | .rorAbs addr => Sys2Proof.Machine.execRorAbs addr s
  | .rorAbsX addr => Sys2Proof.Machine.execRorAbsX addr s
  | .incZp op0 => Sys2Proof.Machine.execIncZp op0 s
  | .incZpX op0 => Sys2Proof.Machine.execIncZpX op0 s
  | .incAbs addr => Sys2Proof.Machine.execIncAbs addr s
  | .incAbsX addr => Sys2Proof.Machine.execIncAbsX addr s
  | .decZp op0 => Sys2Proof.Machine.execDecZp op0 s
  | .decZpX op0 => Sys2Proof.Machine.execDecZpX op0 s
  | .decAbs addr => Sys2Proof.Machine.execDecAbs addr s
  | .decAbsX addr => Sys2Proof.Machine.execDecAbsX addr s
  | .inx => Sys2Proof.Machine.execInx s
  | .dex => Sys2Proof.Machine.execDex s
  | .iny => Sys2Proof.Machine.execIny s
  | .dey => Sys2Proof.Machine.execDey s
  | .bpl off => Sys2Proof.Machine.execBpl off s
  | .bmi off => Sys2Proof.Machine.execBmi off s
  | .bvc off => Sys2Proof.Machine.execBvc off s
  | .bvs off => Sys2Proof.Machine.execBvs off s
  | .bcc off => Sys2Proof.Machine.execBcc off s
  | .bcs off => Sys2Proof.Machine.execBcs off s
  | .bne off => Sys2Proof.Machine.execBne off s
  | .beq off => Sys2Proof.Machine.execBeq off s
  | .jmpAbs addr => Sys2Proof.Machine.execJmpAbs addr s
  | .jmpInd addr => Sys2Proof.Machine.execJmpInd addr s
  | .jsr addr => Sys2Proof.Machine.execJsr addr s
  | .rts => Sys2Proof.Machine.execRts s
  | .brk => Sys2Proof.Machine.execBrk s
  | .rti => Sys2Proof.Machine.execRti s
  | .clc => Sys2Proof.Machine.execClc s
  | .sec => Sys2Proof.Machine.execSec s
  | .cli => Sys2Proof.Machine.execCli s
  | .sei => Sys2Proof.Machine.execSei s
  | .clv => Sys2Proof.Machine.execClv s
  | .cld => Sys2Proof.Machine.execCld s
  | .sed => Sys2Proof.Machine.execSed s
  | .nop => Sys2Proof.Machine.execNop s

end Sys2Proof.Machine
end

