-- ==== Sys2Proof/Machine/Tick.lean ====
section
/-! DEFINITION. The cycle dispatcher (spec/40_dispatcher.md R110 to R119): the parts of `TICK`, `TICK` itself, and the
driver applying one action. -/

namespace Sys2Proof.Machine

/-- `fetch_opcode()` (R114): an invalid opcode is fatal on this tick (spec/60_exceptions.md R271). -/
def State.fetchOpcode (s : State) : State :=
  let opcode := s.mem.read s.pc
  let t := { s with
    pc := s.pc + 1
    dec := { s.dec with opcodeByte := opcode, cycleIndex := 1, fetchNext := false } }
  match descriptor opcode with
  | none => t.raise (.invalidOpcode opcode s.pc)
  | some _ => t

/-- The acceptance of an interrupt (R113): no memory access, no register changed. -/
def State.acceptInterrupt (kind : IntKind) (s : State) : State :=
  s.setDec { s.dec with entryKind := some kind, cycleIndex := 1, fetchNext := false }

/-- A tick at an instruction boundary (R113, R114): NMI first, then IRQ, which is dropped when I = 1. -/
def State.boundaryTick (s : State) : State :=
  if s.nmiPending then ({ s with nmiPending := false }).acceptInterrupt .nmi
  else if s.irqPending then
    if s.p.i then ({ s with irqPending := false }).fetchOpcode
    else ({ s with irqPending := false }).acceptInterrupt .irq
  else s.fetchOpcode

/-- One more cycle spent (R116). -/
def State.countCycle (s : State) : State := s.setDec { s.dec with cycleIndex := s.dec.cycleIndex + 1 }

/-- A tick of an interrupt entry (R119): the entry commits on the last of its ticks. -/
def State.entryTick (kind : IntKind) (s : State) : State :=
  let t := s.countCycle
  if t.dec.cycleIndex = intEntryCycles then (t.enterInterrupt kind).clearDecode else t

/-- The decode state with the byte just fetched as operand byte `cycle_index - 1` (R115). -/
def DecodeState.setOperand (v : Byte) (d : DecodeState) : DecodeState :=
  if d.cycleIndex = 2 then { d with op1 := v } else { d with op0 := v }

/-- Operand fetch (R115): a byte while `cycle_index < size`, and nothing after. -/
def State.fetchOperand (size : Nat) (s : State) : State :=
  if s.dec.cycleIndex < size then
    { s with pc := s.pc + 1, dec := s.dec.setOperand (s.mem.read s.pc) }
  else s

/-- Extra-cycle evaluation (R117): once, on the tick where `cycle_index` becomes `base_cycles`. -/
def State.latchExtra (d : Descriptor) (s : State) : State :=
  if s.dec.cycleIndex = d.baseCycles then s.setDec { s.dec with extra := extraCycles d s } else s

/-- What an instruction tick does before it asks whether to retire (R115 to R117). -/
def State.spendCycle (d : Descriptor) (s : State) : State :=
  ((s.fetchOperand d.size).countCycle).latchExtra d

/-- Retirement (R118): the execute action, then the decode state is cleared, unless a fatal error halted the core
(spec/60_exceptions.md R270). -/
def retire (i : Instr) (s : State) : Result :=
  match exec i s with
  | .next t => .next (if t.halted then t else t.clearDecode)
  | .fault f => .fault f
  | .refused r => .refused r

/-- The instruction in flight, from the decode state. -/
def Descriptor.inFlight (d : Descriptor) (s : State) : Instr := d.build s.dec.op0 s.dec.op1

/-- A tick of an instruction in flight (R112): it retires when the count is complete. An invalid opcode byte in flight
is a state that no run reaches (R120). -/
def instructionTick (s : State) : Result :=
  match descriptor s.dec.opcodeByte with
  | none => .refused (.noDescriptorInFlight s.dec.opcodeByte)
  | some d =>
    let t := s.spendCycle d
    if t.dec.cycleIndex = d.baseCycles + t.dec.extra then retire (Descriptor.inFlight d t) t else .next t

/-- `TICK` (R112). Before the first `RESET` it is refused (spec/70_reset_and_hazards.md R305); while the core is halted
it changes nothing (R111). -/
def tick (s : State) : Result :=
  if s.resetApplied then
    if s.halted then .next s
    else if s.dec.fetchNext then .next s.boundaryTick
    else
      match s.dec.entryKind with
      | some kind => .next (s.entryTick kind)
      | none => instructionTick s
  else .refused .beforeFirstReset

/-- One action of the driver (spec/00_scope.md R6). -/
def applyAction (a : Action) (s : State) : Result :=
  match a with
  | .tick => tick s
  | .reset => .next s.applyReset
  | .requestInterrupt kind =>
    if s.resetApplied then .next (s.requestInterrupt kind) else .refused .beforeFirstReset
  | .driverWrite addr v => .next (s.store addr v)

/-- The driver's next action: the head of its list, or `TICK` when the list is empty (log 2). -/
def driverStep (s : State) : Result :=
  match s.driver with
  | [] => applyAction .tick s
  | a :: rest => applyAction a { s with driver := rest }

/-- `n` ticks, for placing an instruction before its last tick; it stops where a tick answers no next state. -/
def ticks : Nat → State → State
  | 0, s => s
  | n + 1, s =>
    match tick s with
    | .next t => ticks n t
    | .fault _ => s
    | .refused _ => s

/-- Bytes stored at ascending addresses, modulo 0x10000 (spec/10_state.md R35). -/
def Memory.place : Memory → Word → List Byte → Memory
  | m, _, [] => m
  | m, addr, v :: rest => Memory.place (m.write addr v) (addr + 1) rest

/-- The core at an instruction boundary at its own PC, running, with the bytes placed there. -/
def State.atBoundaryWith (bytes : List Byte) (s : State) : State :=
  { s with
    mem := s.mem.place s.pc bytes
    dec := DecodeState.boundary
    nmiPending := false
    irqPending := false
    halted := false
    fault := none
    resetApplied := true
    driver := [] }

/-- How many ticks the instruction at PC takes before its last one; 0 for an invalid opcode, whose fetch tick is its
last (R114). -/
def State.ticksBeforeLast (s : State) : Nat :=
  match descriptor (s.mem.read s.pc) with
  | none => 0
  | some d =>
    let fetched := { s with
      pc := s.pc + BitVec.ofNat 16 d.size
      dec := { s.dec with op0 := s.mem.read (s.pc + 1), op1 := s.mem.read (s.pc + 2) } }
    d.baseCycles + extraCycles d fetched - 1

/-- The bytes placed at PC and every tick of their instruction applied but the last, so that the next tick retires it
(log 1). The interrupt latches are as they were. -/
def State.beforeRetirementOf (bytes : List Byte) (s : State) : State :=
  let b := s.atBoundaryWith bytes
  { ticks b.ticksBeforeLast b with nmiPending := s.nmiPending, irqPending := s.irqPending }

end Sys2Proof.Machine
end

