-- ==== Sys2Proof/Machine/Step.lean ====
section
/-! DEFINITION. The step of the machine: one action of the driver, which is `TICK` unless `State.driver` says otherwise
(spec/00_scope.md R6, spec/40_dispatcher.md R112). -/

namespace Sys2Proof.Machine

/-- One step: one action (log 1, log 2). -/
def step (s : State) : Host.Outcome State Fault Refusal := driverStep s

/-- The state with an instruction placed where the next fetch reads, brought to the tick on which it retires: a step is
one tick and an instruction takes 2 to 7 of them, so the ticks before the last are applied here (log 1). -/
def State.withFetchWord (s : State) (nbits w : Nat) : State := s.beforeRetirementOf (tableBytes nbits w)

end Sys2Proof.Machine
end

