-- ==== Sys2Proof/Safety.lean ====
section
/-! DEFINITION. The terms the claims use: the invariant of the dispatcher (spec/40_dispatcher.md R120), the kinds of
state a tick meets (R110), what each instruction may write (spec/10_state.md R21 to R24, R30), the bytes it stores to,
and the rows of the opcode matrix a mnemonic has (spec/30_encoding.md R90). -/

namespace Sys2Proof.Machine

/-- The largest value a predicate gives (spec/30_encoding.md R89, R132, R133). -/
def maxExtra : Penalty → Nat
  | .none => 0
  | .page => 1
  | .branch _ => 2

/-- What holds after every action (R120, spec/10_state.md R36, R37, R39), with memory in its canonical form. It rules
out the states that no run reaches. -/
structure State.Inv (s : State) : Prop where
  /-- Memory is canonical (spec/20_memory.md R60). -/
  memory : s.mem.wf = true
  /-- At a boundary the decode state has its boundary values (R120, first clause; R36). -/
  boundary : s.dec.fetchNext = true → s.dec = DecodeState.boundary
  /-- An interrupt entry in flight has spent 1 to 6 of its 7 ticks (R119). -/
  entry : ∀ kind, s.dec.entryKind = some kind →
    s.dec.fetchNext = false ∧ 1 ≤ s.dec.cycleIndex ∧ s.dec.cycleIndex < intEntryCycles ∧ s.halted = false
  /-- An instruction in flight has a valid opcode and is not complete (R120, second clause); `extra` is 0 until it is
  latched (R117), and the operand bytes it does not have are 0 (R36). -/
  inFlight : s.dec.fetchNext = false → s.dec.entryKind = none → s.halted = false →
    ∃ d, descriptor s.dec.opcodeByte = some d ∧ 1 ≤ d.size ∧
      1 ≤ s.dec.cycleIndex ∧ s.dec.cycleIndex < d.baseCycles + s.dec.extra ∧
      s.dec.extra ≤ maxExtra d.penalty ∧ (s.dec.cycleIndex < d.baseCycles → s.dec.extra = 0) ∧
      (d.size < 2 → s.dec.op0 = 0) ∧ (d.size < 3 → s.dec.op1 = 0)
  /-- The ranges of the two counters (R36, R37). -/
  ranges : s.dec.cycleIndex ≤ 7 ∧ s.dec.extra ≤ 2
  /-- The halt and its record go together, and the core halts only with an instruction in flight (R39, R270). -/
  halt : s.halted = s.fault.isSome ∧ (s.halted = true → s.dec.fetchNext = false ∧ s.dec.entryKind = none)

/-- A run is safe as long as no fatal error has been reported (spec/60_exceptions.md R270). -/
def State.Safe (s : State) : Prop := s.halted = false ∧ s.fault = none

/-- `RESET` has been applied and the core is not halted: a `TICK` does something. -/
def State.Running (s : State) : Prop := s.resetApplied = true ∧ s.halted = false

/-- A running core at an instruction boundary (R110, FetchOpcode). -/
def State.AtBoundary (s : State) : Prop := s.Running ∧ s.dec = DecodeState.boundary

/-- A running core with the instruction of descriptor `d` in flight (R110, FetchOperand and Execute). -/
def State.InFlight (s : State) (d : Descriptor) : Prop :=
  s.Running ∧ s.dec.fetchNext = false ∧ s.dec.entryKind = none ∧ descriptor s.dec.opcodeByte = some d

/-- A running core with an interrupt entry in flight (R110). -/
def State.InEntry (s : State) (kind : IntKind) : Prop :=
  s.Running ∧ s.dec.fetchNext = false ∧ s.dec.entryKind = some kind

/-- Whether the coming tick completes the instruction in flight (R118): `cycle_index`, counted up by it, is
`base_cycles + extra`, where `extra` is latched on this tick if this is the tick of R117. -/
def State.retiresNow (s : State) (d : Descriptor) : Prop :=
  s.dec.cycleIndex + 1 = d.baseCycles + (s.spendCycle d).dec.extra

/-- The state with the two latches replaced. -/
def State.withLatches (nmi irq : Bool) (s : State) : State := { s with nmiPending := nmi, irqPending := irq }

/-- An answer with its next state changed. -/
def Result.map (f : State → State) (r : Result) : Result :=
  match r with
  | .next t => .next (f t)
  | .fault e => .fault e
  | .refused e => .refused e

/-- The state in which an instruction retires, seen from the boundary before it: every byte fetched, PC past it, the
count complete (R114 to R118). -/
def State.fetched (i : Instr) (cycles extra : Nat) (s : State) : State :=
  { s with
    pc := s.pc + BitVec.ofNat 16 i.size
    dec := {
      opcodeByte := i.opcode
      op0 := i.op0
      op1 := i.op1
      cycleIndex := cycles
      fetchNext := false
      extra := extra
      entryKind := none } }

/-- The N and Z contract (spec/10_state.md R31) over the value of a byte: N is its bit of weight 128, Z says it is 0. -/
def nzOf (v : Byte) (p : Status) : Status :=
  { p with n := decide (128 ≤ v.toNat), z := decide (v.toNat = 0) }

/-- What a conditional branch answers (spec/45_control.md R220): a next state in which PC alone may differ; taken, PC is
the sum with the signed offset modulo 65536, and not taken, PC stays. -/
def BranchAnswers (i : Instr) (off : Byte) (taken : Bool) (s : State) : Prop :=
  ∃ pc : Word, exec i s = .next { s with pc := pc } ∧
    (taken = true → (pc.toNat : Int) = ((s.pc.toNat : Int) + off.toInt) % 65536) ∧
    (taken = false → pc = s.pc)

/-- The instructions that write A (spec/10_state.md R21). -/
def writesA (i : Instr) : Bool :=
  [.lda, .txa, .tya, .pla, .and, .ora, .eor, .adc, .sbc].contains i.mnemonic ||
    ([.asl, .lsr, .rol, .ror].contains i.mnemonic && i.mode == .accumulator)

/-- R22 -/
def writesX (i : Instr) : Bool := [Mnemonic.ldx, .tax, .tsx, .inx, .dex].contains i.mnemonic

/-- R23 -/
def writesY (i : Instr) : Bool := [Mnemonic.ldy, .tay, .iny, .dey].contains i.mnemonic

/-- R24 -/
def writesSP (i : Instr) : Bool :=
  [Mnemonic.txs, .pha, .php, .pla, .plp, .jsr, .rts, .brk, .rti].contains i.mnemonic

/-- R35: the instructions whose retirement changes PC. -/
def writesPC (i : Instr) : Bool :=
  [Mnemonic.bpl, .bmi, .bvc, .bvs, .bcc, .bcs, .bne, .beq, .jmp, .jsr, .rts, .brk, .rti].contains i.mnemonic

/-- R30, columns N and Z. -/
def writesNZ (i : Instr) : Bool :=
  [Mnemonic.lda, .ldx, .ldy, .tax, .tay, .txa, .tya, .tsx, .pla, .inc, .dec, .inx, .dex, .iny, .dey, .and, .ora, .eor,
    .adc, .sbc, .cmp, .cpx, .cpy, .asl, .lsr, .rol, .ror, .bit, .plp, .rti].contains i.mnemonic

/-- R30, column V. -/
def writesV (i : Instr) : Bool := [Mnemonic.adc, .sbc, .bit, .clv, .plp, .rti].contains i.mnemonic

/-- R30, column D. -/
def writesD (i : Instr) : Bool := [Mnemonic.cld, .plp, .rti].contains i.mnemonic

/-- R30, column I. -/
def writesI (i : Instr) : Bool := [Mnemonic.brk, .cli, .sei, .plp, .rti].contains i.mnemonic

/-- R30, column C. -/
def writesC (i : Instr) : Bool :=
  [Mnemonic.adc, .sbc, .cmp, .cpx, .cpy, .asl, .lsr, .rol, .ror, .clc, .sec, .plp, .rti].contains i.mnemonic

/-- The instructions that can raise DecimalModeUnsupported (spec/60_exceptions.md R272). -/
def canRaise (i : Instr) : Bool := [Mnemonic.adc, .sbc, .sed].contains i.mnemonic

/-- The addresses of the bytes an instruction stores to, computed as its meaning computes them: the effective address
of a store or of a read-modify-write, the stack slots of a push (spec/20_memory.md R69). -/
def storedAddresses (i : Instr) (s : State) : List Word :=
  if [Mnemonic.sta, .stx, .sty, .inc, .dec].contains i.mnemonic then [ea i s]
  else if [Mnemonic.asl, .lsr, .rol, .ror].contains i.mnemonic && i.mode != .accumulator then [ea i s]
  else if [Mnemonic.pha, .php].contains i.mnemonic then [stackAddress s.sp]
  else if i.mnemonic = .jsr then [stackAddress s.sp, stackAddress (s.sp - 1)]
  else if i.mnemonic = .brk then [stackAddress s.sp, stackAddress (s.sp - 1), stackAddress (s.sp - 2)]
  else []

/-- One encoding of a mnemonic as R90 gives it. -/
structure Slot where
  opcode : Byte
  mode : Mode
  size : Nat
  baseCycles : Nat
  penalty : Penalty
  deriving DecidableEq, Repr

/-- Every slot of the matrix that holds a mnemonic, in the order of the opcode values. -/
def slotsOf (m : Mnemonic) : List Slot :=
  (List.range 256).filterMap fun n =>
    match descriptor (BitVec.ofNat 8 n) with
    | some d =>
      if (d.build 0 0).mnemonic = m then some ⟨BitVec.ofNat 8 n, d.mode, d.size, d.baseCycles, d.penalty⟩ else none
    | none => none

/-- The opcode values whose slot has the page-cross penalty. -/
def pageCrossOpcodes : List Nat :=
  (List.range 256).filter fun n =>
    match descriptor (BitVec.ofNat 8 n) with
    | some d => d.penalty == .page
    | none => false

end Sys2Proof.Machine
end

