-- ==== Sys2Proof/Certificates/Slice0/Obligations.lean ====
section
/-! DEFINITION. The statements for the provers, one definition each. A statement that rests on a passage the spec marks as
its own decision, inference or general knowledge, or on an entry of the model's log, is 'derived' and says so. -/

open Sys2Proof Sys2Proof.Machine

/-- All 151 constructors: no bit of an encoding is dropped (R85, R87, R90; the matrix is the spec's general knowledge,
G1). -/
def Obligations.DecodeOfEncodeIsTheInstruction : Prop :=
  ∀ (i : Instr) (rest : List Byte), decode (encode i ++ rest) = .ok (i, rest)

/-- The other direction of the round trip: every operand value is legal and is kept (R94), and no two encodings are
one instruction. -/
def Obligations.EncodeOfDecodeIsTheBytes : Prop :=
  ∀ (bytes : List Byte) (i : Instr) (rest : List Byte), decode bytes = .ok (i, rest) → bytes = encode i ++ rest

/-- The sizes of R88 and the invalid values of R92, written out in WellFormed, agree with the matrix of R90 that the
decoder reads. -/
def Obligations.WellFormedBytesAreOneWholeInstruction : Prop :=
  ∀ bytes : List Byte, wellFormed bytes = true ↔ ∃ i, decode bytes = .ok (i, [])

/-- R92, R121 and R91. The lists are derived from the matrix, which is general knowledge (G1, G2). -/
def Obligations.OpcodeMatrixShape : Prop :=
  ((List.range 256).filter fun n => (descriptor (BitVec.ofNat 8 n)).isNone) =
    [0x02, 0x03, 0x04, 0x07, 0x0B, 0x0C, 0x0F, 0x12, 0x13, 0x14, 0x17, 0x1A, 0x1B, 0x1C, 0x1F] ++
    [0x22, 0x23, 0x27, 0x2B, 0x2F, 0x32, 0x33, 0x34, 0x37, 0x3A, 0x3B, 0x3C, 0x3F, 0x42, 0x43] ++
    [0x44, 0x47, 0x4B, 0x4F, 0x52, 0x53, 0x54, 0x57, 0x5A, 0x5B, 0x5C, 0x5F, 0x62, 0x63, 0x64] ++
    [0x67, 0x6B, 0x6F, 0x72, 0x73, 0x74, 0x77, 0x7A, 0x7B, 0x7C, 0x7F, 0x80, 0x82, 0x83, 0x87] ++
    [0x89, 0x8B, 0x8F, 0x92, 0x93, 0x97, 0x9B, 0x9C, 0x9E, 0x9F, 0xA3, 0xA7, 0xAB, 0xAF, 0xB2] ++
    [0xB3, 0xB7, 0xBB, 0xBF, 0xC2, 0xC3, 0xC7, 0xCB, 0xCF, 0xD2, 0xD3, 0xD4, 0xD7, 0xDA, 0xDB] ++
    [0xDC, 0xDF, 0xE2, 0xE3, 0xE7, 0xEB, 0xEF, 0xF2, 0xF3, 0xF4, 0xF7, 0xFA, 0xFB, 0xFC, 0xFF] ∧
  (∀ opcode d, descriptor opcode = some d →
    1 ≤ d.size ∧ d.size ≤ d.baseCycles ∧ 2 ≤ d.baseCycles ∧ d.baseCycles ≤ 7) ∧
  pageCrossOpcodes =
    [0x11, 0x19, 0x1D, 0x31, 0x39, 0x3D, 0x51, 0x59, 0x5D, 0x71, 0x79, 0x7D] ++
    [0xB1, 0xB9, 0xBC, 0xBD, 0xBE, 0xD1, 0xD9, 0xDD, 0xF1, 0xF9, 0xFD]

/-- Words of the spec's examples (95_test_vectors.md part 1; R90). -/
def Obligations.WrittenWordsDecode : Prop :=
  decode [0xA9, 0x99] = .ok (.ldaImm 0x99, []) ∧
  decode [0x6C, 0xFF, 0x30] = .ok (.jmpInd 0x30FF, []) ∧
  decode [0xB1, 0x80] = .ok (.ldaIndY 0x80, []) ∧
  decode [0xF0, 0x04] = .ok (.beq 0x04, []) ∧
  decode [0x00, 0x12] = .ok (.brk, [0x12]) ∧
  decode [0x28] = .ok (.plp, []) ∧ decode [0x68] = .ok (.pla, []) ∧
  decode [0x02, 0x00] = .error (.invalidOpcode 0x02) ∧
  decode [0x4C, 0x00] = .error (.missingOperand 0x4C)

/-- R25, R26 and R29, which rest on the spec's decision D2: bits 5 and 4 have no storage. -/
def Obligations.PackGivesTheStatusByte : Prop :=
  (∀ p : Status, p.pack.getLsbD 7 = p.n ∧ p.pack.getLsbD 6 = p.v ∧ p.pack.getLsbD 5 = true ∧
    p.pack.getLsbD 4 = false ∧ p.pack.getLsbD 3 = p.d ∧ p.pack.getLsbD 2 = p.i ∧ p.pack.getLsbD 1 = p.z ∧
    p.pack.getLsbD 0 = p.c ∧ Status.unpack p.pack = p) ∧
  Status.afterReset.pack = 0x24

/-- R27. -/
def Obligations.UnpackDiscardsBitsFiveAndFour : Prop :=
  ∀ b : Byte,
    (Status.unpack b).n = b.getLsbD 7 ∧ (Status.unpack b).v = b.getLsbD 6 ∧ (Status.unpack b).d = b.getLsbD 3 ∧
    (Status.unpack b).i = b.getLsbD 2 ∧ (Status.unpack b).z = b.getLsbD 1 ∧ (Status.unpack b).c = b.getLsbD 0 ∧
    (Status.unpack b).pack = (b &&& 0xCF) ||| 0x20

/-- R300 and R301 with the values of R40, from every state (R302, the spec's decision D18), with memory unchanged
(R303, decision D13). resetApplied := true is log 6, and that the driver's list stays is log 2, both the model's own.
-/
def Obligations.ResetActionSetsTheResetValues : Prop :=
  ∀ s : State,
    applyAction .reset s = .next { s with
      a := 0x00
      x := 0x00
      y := 0x00
      sp := 0xFD
      p := Status.unpack 0x24
      pc := combine (s.mem.read 0xFFFC) (s.mem.read 0xFFFD)
      dec := {
        opcodeByte := 0x00
        op0 := 0x00
        op1 := 0x00
        cycleIndex := 0
        fetchNext := true
        extra := 0
        entryKind := none }
      nmiPending := false
      irqPending := false
      halted := false
      fault := none
      resetApplied := true } ∧
    (Status.unpack 0x24).pack = 0x24

/-- State.reset against R300 and R40. PC = 0x0000 rests on the model's choice of the unlisted byte (log 4), MODEL on
log 3. -/
def Obligations.ResetStateIsResetOfEmptyMemory : Prop :=
  (∀ unspecified : State, applyAction .reset (State.construct .original [] [] unspecified) = .next State.reset) ∧
  applyAction .reset State.reset = .next State.reset ∧
  State.reset.pc = 0x0000 ∧ State.reset.p.pack = 0x24 ∧ State.reset.sp = 0xFD

/-- The base case of EveryStepKeepsInvariant (R120). -/
def Obligations.ResetStateMeetsInvariant : Prop :=
  State.reset.Inv

/-- R60: MemRead and MemWrite over all 65536 addresses; the premise is the invariant's canonical form. -/
def Obligations.ReadAfterWrite : Prop :=
  ∀ (m : Memory) (a b : Word) (v : Byte), m.wf = true → (m.write a v).read b = if b = a then v else m.read b

/-- R64 and R65: with SP = 0x00 a push writes 0x0100 and leaves 0xFF, with SP = 0xFF a pull reads 0x0100 and leaves
0x00. -/
def Obligations.PushAndPullMoveTheStackPointer : Prop :=
  ∀ (s : State) (v : Byte),
    s.push v = { s with
      mem := s.mem.write (BitVec.ofNat 16 (256 + s.sp.toNat)) v
      sp := BitVec.ofNat 8 ((s.sp.toNat + 255) % 256) } ∧
    s.pull = (s.mem.read (BitVec.ofNat 16 (256 + (s.sp.toNat + 1) % 256)),
      { s with sp := BitVec.ofNat 8 ((s.sp.toNat + 1) % 256) })

/-- R130 and R131. The 16-bit wrap of the indexed sums is the spec's decision D3. -/
def Obligations.EffectiveAddressByMode : Prop :=
  ∀ (s : State) (op0 op1 : Byte),
    let zp := fun n : Nat => (s.mem.read (BitVec.ofNat 16 (n % 256))).toNat
    (effectiveAddress .zeroPage op0 op1 s).toNat = op0.toNat ∧
    (effectiveAddress .zeroPageX op0 op1 s).toNat = (op0.toNat + s.x.toNat) % 256 ∧
    (effectiveAddress .zeroPageY op0 op1 s).toNat = (op0.toNat + s.y.toNat) % 256 ∧
    (effectiveAddress .absolute op0 op1 s).toNat = op0.toNat + 256 * op1.toNat ∧
    (effectiveAddress .absoluteX op0 op1 s).toNat = (op0.toNat + 256 * op1.toNat + s.x.toNat) % 65536 ∧
    (effectiveAddress .absoluteY op0 op1 s).toNat = (op0.toNat + 256 * op1.toNat + s.y.toNat) % 65536 ∧
    (effectiveAddress .indirectX op0 op1 s).toNat =
      zp (op0.toNat + s.x.toNat) + 256 * zp (op0.toNat + s.x.toNat + 1) ∧
    (effectiveAddress .indirectY op0 op1 s).toNat =
      (zp op0.toNat + 256 * zp (op0.toNat + 1) + s.y.toNat) % 65536 ∧
    operandValue .immediate op0 op1 s = op0 ∧ operandValue .accumulator op0 op1 s = s.a ∧
    (∀ mode ∈ [Mode.zeroPage, .zeroPageX, .zeroPageY, .absolute, .absoluteX, .absoluteY, .indirectX, .indirectY],
      operandValue mode op0 op1 s = s.mem.read (effectiveAddress mode op0 op1 s))

/-- R135. The (Indirect),Y sum is R130's, and its wrap modulo 65536 is the spec's decision D3 (log 9). -/
def Obligations.ZeroPagePointersAndIndexesWrap : Prop :=
  ∀ (s : State) (op0 op1 z : Byte),
    s.mem.zeroPagePointer z =
      combine (s.mem.read (BitVec.ofNat 16 z.toNat)) (s.mem.read (BitVec.ofNat 16 ((z.toNat + 1) % 256))) ∧
    s.mem.zeroPagePointer 0xFF = combine (s.mem.read 0x00FF) (s.mem.read 0x0000) ∧
    effectiveAddress .indirectX op0 op1 s = s.mem.zeroPagePointer (op0 + s.x) ∧
    effectiveAddress .indirectY op0 op1 s = s.mem.zeroPagePointer op0 + BitVec.ofNat 16 s.y.toNat ∧
    (effectiveAddress .zeroPageX op0 op1 s).toNat < 256 ∧ (effectiveAddress .zeroPageY op0 op1 s).toNat < 256

/-- R132 (which the spec writes as a low-byte sum over 0xFF) is the page crossing of R16, also where the address wraps
at 0xFFFF (D3, D30). -/
def Obligations.PagePenaltyIsTheCrossing : Prop :=
  ∀ (d : Descriptor) (s : State),
    (d.penalty = .none → extraCycles d s = 0) ∧
    (d.penalty = .page →
      (d.mode = .absoluteX → extraCycles d s =
        if (effectiveAddress .absoluteX s.dec.op0 s.dec.op1 s).toNat / 256 =
          (combine s.dec.op0 s.dec.op1).toNat / 256 then 0 else 1) ∧
      (d.mode = .absoluteY → extraCycles d s =
        if (effectiveAddress .absoluteY s.dec.op0 s.dec.op1 s).toNat / 256 =
          (combine s.dec.op0 s.dec.op1).toNat / 256 then 0 else 1) ∧
      (d.mode = .indirectY → extraCycles d s =
        if (effectiveAddress .indirectY s.dec.op0 s.dec.op1 s).toNat / 256 =
          (s.mem.zeroPagePointer s.dec.op0).toNat / 256 then 0 else 1)) ∧
    (∀ opcode, descriptor opcode = some d → d.penalty = .page →
      d.mode = .absoluteX ∨ d.mode = .absoluteY ∨ d.mode = .indirectY)

/-- R133, over integers. -/
def Obligations.BranchPenaltyByTargetPage : Prop :=
  ∀ (d : Descriptor) (c : Cond) (s : State), d.penalty = .branch c →
    let target : Int := ((s.pc.toNat : Int) + s.dec.op0.toInt) % 65536
    (Cond.holds c s.p = false → extraCycles d s = 0) ∧
    (Cond.holds c s.p = true → target / 256 = (s.pc.toNat : Int) / 256 → extraCycles d s = 1) ∧
    (Cond.holds c s.p = true → target / 256 ≠ (s.pc.toNat : Int) / 256 → extraCycles d s = 2)

/-- R111 (decision D10), R305 (decision D13) and the one action at a time of R6; the list of actions is the model's
own (log 2). -/
def Obligations.HaltedTickIdlesAndNothingRunsBeforeReset : Prop :=
  (∀ s : State, s.resetApplied = true → s.halted = true → tick s = .next s) ∧
  (∀ (s : State) (kind : IntKind), s.resetApplied = false →
    tick s = .refused .beforeFirstReset ∧
    applyAction (.requestInterrupt kind) s = .refused .beforeFirstReset) ∧
  (∀ s : State, s.driver = [] → step s = tick s) ∧
  (∀ (s : State) (a : Action) (rest : List Action), s.driver = a :: rest →
    step s = applyAction a { s with driver := rest })

/-- R114 and R271; the record's address and the PC after the fault are the spec's decision D11. -/
def Obligations.BoundaryTickFetchesOpcode : Prop :=
  ∀ s : State, s.AtBoundary → s.nmiPending = false → s.irqPending = false →
    let opcode := s.mem.read s.pc
    let t := { s with
      pc := s.pc + 1
      dec := { DecodeState.boundary with opcodeByte := opcode, cycleIndex := 1, fetchNext := false } }
    ((descriptor opcode).isSome = true → tick s = .next t) ∧
    (descriptor opcode = none →
      tick s = .next { t with halted := true, fault := some (.invalidOpcode opcode s.pc) })

/-- R113, R281 and R284: the spec's decisions D6 to D8. -/
def Obligations.InterruptAcceptance : Prop :=
  ∀ s : State, s.AtBoundary →
    (s.nmiPending = true → tick s = .next { s with
      nmiPending := false
      dec := { DecodeState.boundary with entryKind := some .nmi, cycleIndex := 1, fetchNext := false } }) ∧
    (s.nmiPending = false → s.irqPending = true → s.p.i = false → tick s = .next { s with
      irqPending := false
      dec := { DecodeState.boundary with entryKind := some .irq, cycleIndex := 1, fetchNext := false } }) ∧
    (s.nmiPending = false → s.irqPending = true → s.p.i = true → tick s = tick { s with irqPending := false })

/-- R115 and R116. -/
def Obligations.OperandFetchAndCycleCount : Prop :=
  ∀ (s : State) (d : Descriptor), s.InFlight d → 1 ≤ s.dec.cycleIndex →
    let t := s.spendCycle d
    t.dec.cycleIndex = s.dec.cycleIndex + 1 ∧
    (s.dec.cycleIndex = 1 → 1 < d.size →
      t.pc = s.pc + 1 ∧ t.dec.op0 = s.mem.read s.pc ∧ t.dec.op1 = s.dec.op1) ∧
    (s.dec.cycleIndex = 2 → 2 < d.size →
      t.pc = s.pc + 1 ∧ t.dec.op0 = s.dec.op0 ∧ t.dec.op1 = s.mem.read s.pc) ∧
    (d.size ≤ s.dec.cycleIndex → t.pc = s.pc ∧ t.dec.op0 = s.dec.op0 ∧ t.dec.op1 = s.dec.op1) ∧
    t = { s with
      pc := t.pc
      dec := { s.dec with op0 := t.dec.op0, op1 := t.dec.op1, cycleIndex := t.dec.cycleIndex, extra := t.dec.extra } } ∧
    (¬ s.retiresNow d → tick s = .next t)

/-- R118: a step runs the decoded instruction. What the step adds around exec is the clearing of the decode state.
That a step is one action (log 1), and that an empty driver list means TICK (log 2), are the model's choices. -/
def Obligations.RetirementRunsTheDecodedInstruction : Prop :=
  ∀ (s : State) (d : Descriptor) (i : Instr) (rest : List Byte) (u : State), s.InFlight d → s.retiresNow d →
    let t := s.spendCycle d
    decode [t.dec.opcodeByte, t.dec.op0, t.dec.op1] = .ok (i, rest) → exec i t = .next u →
    (u.halted = false → tick s = .next { u with dec := DecodeState.boundary }) ∧
    (u.halted = true → tick s = .next u) ∧
    (s.driver = [] → step s = tick s)

/-- R112 to R118, R122 and R314 as one statement; when the predicate is evaluated is the spec's decision D4. -/
def Obligations.WholeInstructionTakesItsTicks : Prop :=
  ∀ (s : State) (i : Instr) (rest : List Byte) (d : Descriptor) (u : State),
    s.AtBoundary → s.driver = [] → s.nmiPending = false → s.irqPending = false →
    decode [s.mem.read s.pc, s.mem.read (s.pc + 1), s.mem.read (s.pc + 2)] = .ok (i, rest) →
    descriptor (s.mem.read s.pc) = some d →
    let extra := extraCycles d (s.fetched i d.baseCycles 0)
    exec i (s.fetched i (d.baseCycles + extra) extra) = .next u →
    Host.Core.run Sys2Proof.core (d.baseCycles + extra) s =
      .next (if u.halted = true then u else { u with dec := DecodeState.boundary })

/-- R285 and R119. The seven ticks are the spec's decision D6; D unchanged is its decision D9. -/
def Obligations.InterruptEntryTakesSevenTicks : Prop :=
  ∀ (s : State) (kind : IntKind), s.AtBoundary → s.driver = [] →
    ((kind = .nmi ∧ s.nmiPending = true) ∨
      (kind = .irq ∧ s.nmiPending = false ∧ s.irqPending = true ∧ s.p.i = false)) →
    let mem := ((s.mem.write (stackAddress s.sp) (highByte s.pc)).write (stackAddress (s.sp - 1)) (lowByte s.pc)).write
      (stackAddress (s.sp - 2)) s.p.pack
    let vector : Word := if kind = .nmi then 0xFFFA else 0xFFFE
    Host.Core.run Sys2Proof.core 7 s = .next { s with
      mem := mem
      sp := s.sp - 3
      p := { s.p with i := true }
      pc := combine (mem.read vector) (mem.read (vector + 1))
      dec := DecodeState.boundary
      nmiPending := if kind = .nmi then false else s.nmiPending
      irqPending := if kind = .irq then false else s.irqPending }

/-- R280, R281 and R283: the spec's decisions D7, D8 and D20. -/
def Obligations.RequestInterruptLatches : Prop :=
  ∀ s : State, s.resetApplied = true →
    applyAction (.requestInterrupt .nmi) s = .next { s with nmiPending := true } ∧
    (s.p.i = false → applyAction (.requestInterrupt .irq) s = .next { s with irqPending := true }) ∧
    (s.p.i = true → applyAction (.requestInterrupt .irq) s = .next s)

/-- R282. -/
def Obligations.NmiCannotBeMasked : Prop :=
  ∀ s : State, s.resetApplied = true →
    ∃ t, applyAction (.requestInterrupt .nmi) s = .next t ∧ t.nmiPending = true ∧
      (∀ b : State, b.AtBoundary → b.nmiPending = true →
        ∃ u, tick b = .next u ∧ u.dec.entryKind = some .nmi ∧ u.nmiPending = false) ∧
      (s.AtBoundary → ∃ u, tick t = .next u ∧ u.dec.entryKind = some .nmi)

/-- R284, the spec's decision D8 (conflict C8). -/
def Obligations.IrqPendingWithNmiIsLost : Prop :=
  ∀ s : State, s.AtBoundary → s.driver = [] → s.nmiPending = true → s.irqPending = true →
    ∃ t, Host.Core.run Sys2Proof.core 8 s = .next t ∧
      t.nmiPending = false ∧ t.irqPending = false ∧ t.p.i = true ∧
      t.dec.entryKind = none ∧ t.dec.cycleIndex = 1 ∧ t.dec.fetchNext = false

/-- R288, for every instruction and every tick of it. -/
def Obligations.InFlightInstructionIgnoresLatches : Prop :=
  ∀ (s : State) (d : Descriptor) (nmi irq : Bool), s.InFlight d →
    tick (s.withLatches nmi irq) = Result.map (State.withLatches nmi irq) (tick s) ∧
    (∀ t, tick s = .next t → t.dec.entryKind = none)

/-- R150, R151 and R152: ldaImm ldaZp ldaZpX ldaAbs ldaAbsX ldaAbsY ldaIndX ldaIndY, ldxImm ldxZp ldxZpY ldxAbs
ldxAbsY, ldyImm ldyZp ldyZpX ldyAbs ldyAbsX. -/
def Obligations.LoadsWriteRegisterAndNZ : Prop :=
  (∀ (i : Instr) (s : State),
    (i.mnemonic = .lda → exec i s = .next { s with a := operand i s, p := nzOf (operand i s) s.p }) ∧
    (i.mnemonic = .ldx → exec i s = .next { s with x := operand i s, p := nzOf (operand i s) s.p }) ∧
    (i.mnemonic = .ldy → exec i s = .next { s with y := operand i s, p := nzOf (operand i s) s.p })) ∧
  slotsOf .lda = [
    ⟨0xA1, .indirectX, 2, 6, .none⟩, ⟨0xA5, .zeroPage, 2, 3, .none⟩, ⟨0xA9, .immediate, 2, 2, .none⟩,
    ⟨0xAD, .absolute, 3, 4, .none⟩, ⟨0xB1, .indirectY, 2, 5, .page⟩, ⟨0xB5, .zeroPageX, 2, 4, .none⟩,
    ⟨0xB9, .absoluteY, 3, 4, .page⟩, ⟨0xBD, .absoluteX, 3, 4, .page⟩] ∧
  slotsOf .ldx = [
    ⟨0xA2, .immediate, 2, 2, .none⟩, ⟨0xA6, .zeroPage, 2, 3, .none⟩, ⟨0xAE, .absolute, 3, 4, .none⟩,
    ⟨0xB6, .zeroPageY, 2, 4, .none⟩, ⟨0xBE, .absoluteY, 3, 4, .page⟩] ∧
  slotsOf .ldy = [
    ⟨0xA0, .immediate, 2, 2, .none⟩, ⟨0xA4, .zeroPage, 2, 3, .none⟩, ⟨0xAC, .absolute, 3, 4, .none⟩,
    ⟨0xB4, .zeroPageX, 2, 4, .none⟩, ⟨0xBC, .absoluteX, 3, 4, .page⟩]

/-- R153, R154 and R155: staZp staZpX staAbs staAbsX staAbsY staIndX staIndY, stxZp stxZpY stxAbs, styZp styZpX
styAbs. STA's fixed cycle counts are general knowledge (R91). -/
def Obligations.StoresWriteOneByte : Prop :=
  (∀ (i : Instr) (s : State),
    (i.mnemonic = .sta → exec i s = .next { s with mem := s.mem.write (ea i s) s.a }) ∧
    (i.mnemonic = .stx → exec i s = .next { s with mem := s.mem.write (ea i s) s.x }) ∧
    (i.mnemonic = .sty → exec i s = .next { s with mem := s.mem.write (ea i s) s.y })) ∧
  slotsOf .sta = [
    ⟨0x81, .indirectX, 2, 6, .none⟩, ⟨0x85, .zeroPage, 2, 3, .none⟩, ⟨0x8D, .absolute, 3, 4, .none⟩,
    ⟨0x91, .indirectY, 2, 6, .none⟩, ⟨0x95, .zeroPageX, 2, 4, .none⟩, ⟨0x99, .absoluteY, 3, 5, .none⟩,
    ⟨0x9D, .absoluteX, 3, 5, .none⟩] ∧
  slotsOf .stx = [
    ⟨0x86, .zeroPage, 2, 3, .none⟩, ⟨0x8E, .absolute, 3, 4, .none⟩, ⟨0x96, .zeroPageY, 2, 4, .none⟩] ∧
  slotsOf .sty = [
    ⟨0x84, .zeroPage, 2, 3, .none⟩, ⟨0x8C, .absolute, 3, 4, .none⟩, ⟨0x94, .zeroPageX, 2, 4, .none⟩]

/-- R160 to R165; the directions, and that TXS writes no flag, are general knowledge (G4, G8, D23), and so are the
slots of R90 (G1). -/
def Obligations.TransfersMoveAByte : Prop :=
  (∀ s : State,
    exec .tax s = .next { s with x := s.a, p := nzOf s.a s.p } ∧
    exec .tay s = .next { s with y := s.a, p := nzOf s.a s.p } ∧
    exec .txa s = .next { s with a := s.x, p := nzOf s.x s.p } ∧
    exec .tya s = .next { s with a := s.y, p := nzOf s.y s.p } ∧
    exec .tsx s = .next { s with x := s.sp, p := nzOf s.sp s.p } ∧
    exec .txs s = .next { s with sp := s.x }) ∧
  slotsOf .tax = [
    ⟨0xAA, .implied, 1, 2, .none⟩] ∧
  slotsOf .tay = [
    ⟨0xA8, .implied, 1, 2, .none⟩] ∧
  slotsOf .txa = [
    ⟨0x8A, .implied, 1, 2, .none⟩] ∧
  slotsOf .tya = [
    ⟨0x98, .implied, 1, 2, .none⟩] ∧
  slotsOf .tsx = [
    ⟨0xBA, .implied, 1, 2, .none⟩] ∧
  slotsOf .txs = [
    ⟨0x9A, .implied, 1, 2, .none⟩]

/-- R166, R168 and R169, with the wrap of SP modulo 256. -/
def Obligations.PhaPlaPlpMoveStackBytes : Prop :=
  (∀ s : State,
    let pulled := s.mem.read (BitVec.ofNat 16 (256 + (s.sp.toNat + 1) % 256))
    exec .pha s = .next { s with mem := s.mem.write (BitVec.ofNat 16 (256 + s.sp.toNat)) s.a, sp := s.sp - 1 } ∧
    exec .pla s = .next { s with a := pulled, sp := s.sp + 1, p := nzOf pulled s.p } ∧
    exec .plp s = .next { s with
      sp := s.sp + 1
      p := {
        n := pulled.getLsbD 7
        v := pulled.getLsbD 6
        d := pulled.getLsbD 3
        i := pulled.getLsbD 2
        z := pulled.getLsbD 1
        c := pulled.getLsbD 0 } }) ∧
  slotsOf .pha = [
    ⟨0x48, .implied, 1, 3, .none⟩] ∧
  slotsOf .pla = [
    ⟨0x68, .implied, 1, 4, .none⟩] ∧
  slotsOf .plp = [
    ⟨0x28, .implied, 1, 4, .none⟩]

/-- R167; bit 4 of the pushed byte is the spec's decision D22 (general knowledge G6). The slot of R90 is general
knowledge (G1). -/
def Obligations.PhpPushesStatusWithBreakSet : Prop :=
  (∀ s : State,
    exec .php s = .next { s with
      mem := s.mem.write (stackAddress s.sp) (s.p.pack ||| 0x30)
      sp := s.sp - 1 }) ∧
  slotsOf .php = [
    ⟨0x08, .implied, 1, 3, .none⟩]

/-- R180, R181 and R182: the eight forms each of AND, ORA and EOR (Imm Zp ZpX Abs AbsX AbsY IndX IndY). -/
def Obligations.LogicWritesAccumulatorAndNZ : Prop :=
  (∀ (i : Instr) (s : State),
    (i.mnemonic = .and → exec i s = .next { s with a := s.a &&& operand i s, p := nzOf (s.a &&& operand i s) s.p }) ∧
    (i.mnemonic = .ora → exec i s = .next { s with a := s.a ||| operand i s, p := nzOf (s.a ||| operand i s) s.p }) ∧
    (i.mnemonic = .eor → exec i s = .next { s with a := s.a ^^^ operand i s, p := nzOf (s.a ^^^ operand i s) s.p })) ∧
  slotsOf .and = [
    ⟨0x21, .indirectX, 2, 6, .none⟩, ⟨0x25, .zeroPage, 2, 3, .none⟩, ⟨0x29, .immediate, 2, 2, .none⟩,
    ⟨0x2D, .absolute, 3, 4, .none⟩, ⟨0x31, .indirectY, 2, 5, .page⟩, ⟨0x35, .zeroPageX, 2, 4, .none⟩,
    ⟨0x39, .absoluteY, 3, 4, .page⟩, ⟨0x3D, .absoluteX, 3, 4, .page⟩] ∧
  slotsOf .ora = [
    ⟨0x01, .indirectX, 2, 6, .none⟩, ⟨0x05, .zeroPage, 2, 3, .none⟩, ⟨0x09, .immediate, 2, 2, .none⟩,
    ⟨0x0D, .absolute, 3, 4, .none⟩, ⟨0x11, .indirectY, 2, 5, .page⟩, ⟨0x15, .zeroPageX, 2, 4, .none⟩,
    ⟨0x19, .absoluteY, 3, 4, .page⟩, ⟨0x1D, .absoluteX, 3, 4, .page⟩] ∧
  slotsOf .eor = [
    ⟨0x41, .indirectX, 2, 6, .none⟩, ⟨0x45, .zeroPage, 2, 3, .none⟩, ⟨0x49, .immediate, 2, 2, .none⟩,
    ⟨0x4D, .absolute, 3, 4, .none⟩, ⟨0x51, .indirectY, 2, 5, .page⟩, ⟨0x55, .zeroPageX, 2, 4, .none⟩,
    ⟨0x59, .absoluteY, 3, 4, .page⟩, ⟨0x5D, .absoluteX, 3, 4, .page⟩]

/-- R183: bitZp bitAbs. That Z comes from A & M is general knowledge (G7), and so are the slots of R90 (G1). -/
def Obligations.BitWritesThreeFlags : Prop :=
  (∀ (i : Instr) (s : State), i.mnemonic = .bit →
    exec i s = .next { s with p := { s.p with
      z := decide (s.a &&& operand i s = 0)
      n := decide (128 ≤ (operand i s).toNat)
      v := (operand i s).getLsbD 6 } }) ∧
  slotsOf .bit = [
    ⟨0x24, .zeroPage, 2, 3, .none⟩, ⟨0x2C, .absolute, 3, 4, .none⟩]

/-- R184, R32, R33 and R272: the eight forms of ADC. What a faulting ADC commits is the spec's decision D12. The slots
of R90 are general knowledge (G1). -/
def Obligations.AdcAddsWithCarry : Prop :=
  (∀ (i : Instr) (s : State), i.mnemonic = .adc →
    (s.p.d = false → ∃ t, exec i s = .next t ∧
      let sum : Nat := s.a.toNat + (operand i s).toNat + s.p.c.toNat
      let signed : Int := s.a.toInt + (operand i s).toInt + (s.p.c.toNat : Int)
      t.a.toNat = sum % 256 ∧ t.p.c = decide (255 < sum) ∧ t.p.v = decide (signed < -128 ∨ 127 < signed) ∧
      t.p.n = decide (128 ≤ sum % 256) ∧ t.p.z = decide (sum % 256 = 0) ∧
      t = { s with a := t.a, p := { s.p with n := t.p.n, v := t.p.v, z := t.p.z, c := t.p.c } }) ∧
    (s.p.d = true → exec i s = .next { s with
      halted := true
      fault := some (.decimalModeUnsupported i.opcode (s.pc - BitVec.ofNat 16 i.size)) })) ∧
  slotsOf .adc = [
    ⟨0x61, .indirectX, 2, 6, .none⟩, ⟨0x65, .zeroPage, 2, 3, .none⟩, ⟨0x69, .immediate, 2, 2, .none⟩,
    ⟨0x6D, .absolute, 3, 4, .none⟩, ⟨0x71, .indirectY, 2, 5, .page⟩, ⟨0x75, .zeroPageX, 2, 4, .none⟩,
    ⟨0x79, .absoluteY, 3, 4, .page⟩, ⟨0x7D, .absoluteX, 3, 4, .page⟩]

/-- R185, R32, R33 and R272: the eight forms of SBC. What a faulting SBC commits is the spec's decision D12. The slots
of R90 are general knowledge (G1). -/
def Obligations.SbcSubtractsWithBorrow : Prop :=
  (∀ (i : Instr) (s : State), i.mnemonic = .sbc →
    (s.p.d = false → ∃ t, exec i s = .next t ∧
      let borrow : Int := 1 - (s.p.c.toNat : Int)
      let difference : Int := (s.a.toNat : Int) - ((operand i s).toNat : Int) - borrow
      let signed : Int := s.a.toInt - (operand i s).toInt - borrow
      (t.a.toNat : Int) = difference % 256 ∧ t.p.c = decide (0 ≤ difference) ∧
      t.p.v = decide (signed < -128 ∨ 127 < signed) ∧
      t.p.n = decide (128 ≤ difference % 256) ∧ t.p.z = decide (difference % 256 = 0) ∧
      t = { s with a := t.a, p := { s.p with n := t.p.n, v := t.p.v, z := t.p.z, c := t.p.c } }) ∧
    (s.p.d = true → exec i s = .next { s with
      halted := true
      fault := some (.decimalModeUnsupported i.opcode (s.pc - BitVec.ofNat 16 i.size)) })) ∧
  slotsOf .sbc = [
    ⟨0xE1, .indirectX, 2, 6, .none⟩, ⟨0xE5, .zeroPage, 2, 3, .none⟩, ⟨0xE9, .immediate, 2, 2, .none⟩,
    ⟨0xED, .absolute, 3, 4, .none⟩, ⟨0xF1, .indirectY, 2, 5, .page⟩, ⟨0xF5, .zeroPageX, 2, 4, .none⟩,
    ⟨0xF9, .absoluteY, 3, 4, .page⟩, ⟨0xFD, .absoluteX, 3, 4, .page⟩]

/-- R186, R187 and R188: the eight forms of CMP, three of CPX and three of CPY. N and the binary compare are general
knowledge (G7), and so are the slots of R90 (G1). -/
def Obligations.ComparesWriteThreeFlags : Prop :=
  (∀ (i : Instr) (s : State),
    let answer := fun reg : Byte => ({ s with p := { s.p with
      c := decide ((operand i s).toNat ≤ reg.toNat)
      z := decide (reg = operand i s)
      n := decide (128 ≤ (reg.toNat + 256 - (operand i s).toNat) % 256) } } : State)
    (i.mnemonic = .cmp → exec i s = .next (answer s.a)) ∧
    (i.mnemonic = .cpx → exec i s = .next (answer s.x)) ∧
    (i.mnemonic = .cpy → exec i s = .next (answer s.y))) ∧
  slotsOf .cmp = [
    ⟨0xC1, .indirectX, 2, 6, .none⟩, ⟨0xC5, .zeroPage, 2, 3, .none⟩, ⟨0xC9, .immediate, 2, 2, .none⟩,
    ⟨0xCD, .absolute, 3, 4, .none⟩, ⟨0xD1, .indirectY, 2, 5, .page⟩, ⟨0xD5, .zeroPageX, 2, 4, .none⟩,
    ⟨0xD9, .absoluteY, 3, 4, .page⟩, ⟨0xDD, .absoluteX, 3, 4, .page⟩] ∧
  slotsOf .cpx = [
    ⟨0xE0, .immediate, 2, 2, .none⟩, ⟨0xE4, .zeroPage, 2, 3, .none⟩, ⟨0xEC, .absolute, 3, 4, .none⟩] ∧
  slotsOf .cpy = [
    ⟨0xC0, .immediate, 2, 2, .none⟩, ⟨0xC4, .zeroPage, 2, 3, .none⟩, ⟨0xCC, .absolute, 3, 4, .none⟩]

/-- R200 to R203: the five forms each of ASL, LSR, ROL and ROR (A Zp ZpX Abs AbsX). The directions are general
knowledge (G5), and so are the slots of R90 (G1). -/
def Obligations.ShiftsAndRotates : Prop :=
  (∀ (i : Instr) (s : State),
    let v := (operand i s).toNat
    let c := s.p.c.toNat
    let answers := fun (r : Nat) (out : Bool) => exec i s = .next (
      let p := { nzOf (BitVec.ofNat 8 r) s.p with c := out }
      if i.mode = .accumulator then { s with a := BitVec.ofNat 8 r, p := p }
      else { s with mem := s.mem.write (ea i s) (BitVec.ofNat 8 r), p := p })
    (i.mnemonic = .asl → answers (2 * v % 256) (decide (128 ≤ v))) ∧
    (i.mnemonic = .lsr → answers (v / 2) (decide (v % 2 = 1))) ∧
    (i.mnemonic = .rol → answers ((2 * v + c) % 256) (decide (128 ≤ v))) ∧
    (i.mnemonic = .ror → answers (v / 2 + 128 * c) (decide (v % 2 = 1)))) ∧
  slotsOf .asl = [
    ⟨0x06, .zeroPage, 2, 5, .none⟩, ⟨0x0A, .accumulator, 1, 2, .none⟩, ⟨0x0E, .absolute, 3, 6, .none⟩,
    ⟨0x16, .zeroPageX, 2, 6, .none⟩, ⟨0x1E, .absoluteX, 3, 7, .none⟩] ∧
  slotsOf .lsr = [
    ⟨0x46, .zeroPage, 2, 5, .none⟩, ⟨0x4A, .accumulator, 1, 2, .none⟩, ⟨0x4E, .absolute, 3, 6, .none⟩,
    ⟨0x56, .zeroPageX, 2, 6, .none⟩, ⟨0x5E, .absoluteX, 3, 7, .none⟩] ∧
  slotsOf .rol = [
    ⟨0x26, .zeroPage, 2, 5, .none⟩, ⟨0x2A, .accumulator, 1, 2, .none⟩, ⟨0x2E, .absolute, 3, 6, .none⟩,
    ⟨0x36, .zeroPageX, 2, 6, .none⟩, ⟨0x3E, .absoluteX, 3, 7, .none⟩] ∧
  slotsOf .ror = [
    ⟨0x66, .zeroPage, 2, 5, .none⟩, ⟨0x6A, .accumulator, 1, 2, .none⟩, ⟨0x6E, .absolute, 3, 6, .none⟩,
    ⟨0x76, .zeroPageX, 2, 6, .none⟩, ⟨0x7E, .absoluteX, 3, 7, .none⟩]

/-- R204 and R205: incZp incZpX incAbs incAbsX, decZp decZpX decAbs decAbsX. -/
def Obligations.IncAndDecMemory : Prop :=
  (∀ (i : Instr) (s : State),
    let v := (s.mem.read (ea i s)).toNat
    let answers := fun r : Nat => exec i s = .next { s with
      mem := s.mem.write (ea i s) (BitVec.ofNat 8 r)
      p := nzOf (BitVec.ofNat 8 r) s.p }
    (i.mnemonic = .inc → answers ((v + 1) % 256)) ∧ (i.mnemonic = .dec → answers ((v + 255) % 256))) ∧
  slotsOf .inc = [
    ⟨0xE6, .zeroPage, 2, 5, .none⟩, ⟨0xEE, .absolute, 3, 6, .none⟩, ⟨0xF6, .zeroPageX, 2, 6, .none⟩,
    ⟨0xFE, .absoluteX, 3, 7, .none⟩] ∧
  slotsOf .dec = [
    ⟨0xC6, .zeroPage, 2, 5, .none⟩, ⟨0xCE, .absolute, 3, 6, .none⟩, ⟨0xD6, .zeroPageX, 2, 6, .none⟩,
    ⟨0xDE, .absoluteX, 3, 7, .none⟩]

/-- R206 to R209. -/
def Obligations.IndexRegistersStep : Prop :=
  (∀ s : State,
    let up := fun v : Byte => BitVec.ofNat 8 ((v.toNat + 1) % 256)
    let down := fun v : Byte => BitVec.ofNat 8 ((v.toNat + 255) % 256)
    exec .inx s = .next { s with x := up s.x, p := nzOf (up s.x) s.p } ∧
    exec .dex s = .next { s with x := down s.x, p := nzOf (down s.x) s.p } ∧
    exec .iny s = .next { s with y := up s.y, p := nzOf (up s.y) s.p } ∧
    exec .dey s = .next { s with y := down s.y, p := nzOf (down s.y) s.p }) ∧
  slotsOf .inx = [
    ⟨0xE8, .implied, 1, 2, .none⟩] ∧
  slotsOf .dex = [
    ⟨0xCA, .implied, 1, 2, .none⟩] ∧
  slotsOf .iny = [
    ⟨0xC8, .implied, 1, 2, .none⟩] ∧
  slotsOf .dey = [
    ⟨0x88, .implied, 1, 2, .none⟩]

/-- R220 to R228: bpl bmi bvc bvs bcc bcs bne beq. Which flag each tests is general knowledge (G3), and so are the
slots of R90 (G1). The penalty of a slot names the condition that R133 evaluates, and the second clause says that this
is the flag test of that branch. -/
def Obligations.BranchesTestTheirFlag : Prop :=
  (∀ (s : State) (off : Byte),
    BranchAnswers (.bpl off) off (!s.p.n) s ∧ BranchAnswers (.bmi off) off s.p.n s ∧
    BranchAnswers (.bvc off) off (!s.p.v) s ∧ BranchAnswers (.bvs off) off s.p.v s ∧
    BranchAnswers (.bcc off) off (!s.p.c) s ∧ BranchAnswers (.bcs off) off s.p.c s ∧
    BranchAnswers (.bne off) off (!s.p.z) s ∧ BranchAnswers (.beq off) off s.p.z s) ∧
  (∀ p : Status,
    Cond.holds .pl p = !p.n ∧ Cond.holds .mi p = p.n ∧ Cond.holds .vc p = !p.v ∧ Cond.holds .vs p = p.v ∧
    Cond.holds .cc p = !p.c ∧ Cond.holds .cs p = p.c ∧ Cond.holds .ne p = !p.z ∧ Cond.holds .eq p = p.z) ∧
  slotsOf .bpl = [
    ⟨0x10, .relative, 2, 2, .branch .pl⟩] ∧
  slotsOf .bmi = [
    ⟨0x30, .relative, 2, 2, .branch .mi⟩] ∧
  slotsOf .bvc = [
    ⟨0x50, .relative, 2, 2, .branch .vc⟩] ∧
  slotsOf .bvs = [
    ⟨0x70, .relative, 2, 2, .branch .vs⟩] ∧
  slotsOf .bcc = [
    ⟨0x90, .relative, 2, 2, .branch .cc⟩] ∧
  slotsOf .bcs = [
    ⟨0xB0, .relative, 2, 2, .branch .cs⟩] ∧
  slotsOf .bne = [
    ⟨0xD0, .relative, 2, 2, .branch .ne⟩] ∧
  slotsOf .beq = [
    ⟨0xF0, .relative, 2, 2, .branch .eq⟩]

/-- R231: jmpAbs. The slot of JMP indirect is R232's, 5 cycles in both variants by the spec's decision D17. -/
def Obligations.JmpAbsoluteLoadsPC : Prop :=
  (∀ (s : State) (addr : Word), exec (.jmpAbs addr) s = .next { s with pc := addr }) ∧
  (∀ addr : Word, encode (.jmpAbs addr) = [0x4C, BitVec.ofNat 8 (addr.toNat % 256), BitVec.ofNat 8 (addr.toNat / 256)]) ∧
  slotsOf .jmp = [
    ⟨0x4C, .absolute, 3, 3, .none⟩, ⟨0x6C, .indirect, 3, 5, .none⟩]

/-- R232 and R233: jmpInd. -/
def Obligations.JmpIndirectReadsItsPointer : Prop :=
  ∀ (s : State) (addr : Word),
    let high : Nat :=
      if s.model = .original then addr.toNat / 256 * 256 + (addr.toNat + 1) % 256 else (addr.toNat + 1) % 65536
    exec (.jmpInd addr) s =
      .next { s with pc := combine (s.mem.read addr) (s.mem.read (BitVec.ofNat 16 high)) }

/-- R234 and R235: jsr rts. The +1 of RTS applies to the full 16-bit value. -/
def Obligations.JsrAndRts : Prop :=
  (∀ (s : State) (addr : Word),
    let slot := fun k : Nat => BitVec.ofNat 16 (256 + (s.sp.toNat + k) % 256)
    let ret : Nat := (s.pc.toNat + 65535) % 65536
    let back : Nat := (s.mem.read (slot 1)).toNat + 256 * (s.mem.read (slot 2)).toNat
    exec (.jsr addr) s = .next { s with
      mem := (s.mem.write (slot 0) (BitVec.ofNat 8 (ret / 256))).write (slot 255) (BitVec.ofNat 8 (ret % 256))
      sp := s.sp - 2
      pc := addr } ∧
    exec .rts s = .next { s with sp := s.sp + 2, pc := BitVec.ofNat 16 ((back + 1) % 65536) }) ∧
  slotsOf .jsr = [
    ⟨0x20, .absolute, 3, 6, .none⟩] ∧
  slotsOf .rts = [
    ⟨0x60, .implied, 1, 6, .none⟩]

/-- R236: brk. That D is unchanged is general knowledge (G10), and so is the slot of R90 (G1), whose size 1 leaves out
the padding byte. -/
def Obligations.BrkEntersTheHandler : Prop :=
  (∀ s : State,
    let ret := s.pc + 1
    let mem := ((s.mem.write (stackAddress s.sp) (highByte ret)).write (stackAddress (s.sp - 1)) (lowByte ret)).write
      (stackAddress (s.sp - 2)) (s.p.pack ||| 0x30)
    exec .brk s = .next { s with
      mem := mem
      sp := s.sp - 3
      p := { s.p with i := true }
      pc := combine (mem.read 0xFFFE) (mem.read 0xFFFF) }) ∧
  slotsOf .brk = [
    ⟨0x00, .implied, 1, 7, .none⟩]

/-- R237: rti. -/
def Obligations.RtiRestoresStatusAndPC : Prop :=
  (∀ s : State,
    let b := s.mem.read (stackAddress (s.sp + 1))
    exec .rti s = .next { s with
      p := {
        n := b.getLsbD 7
        v := b.getLsbD 6
        d := b.getLsbD 3
        i := b.getLsbD 2
        z := b.getLsbD 1
        c := b.getLsbD 0 }
      pc := combine (s.mem.read (stackAddress (s.sp + 2))) (s.mem.read (stackAddress (s.sp + 3)))
      sp := s.sp + 3 }) ∧
  slotsOf .rti = [
    ⟨0x40, .implied, 1, 6, .none⟩]

/-- R250 to R255: clc sec cli sei clv cld. The flag of each is general knowledge (G9), and so are the slots of R90
(G1). -/
def Obligations.FlagInstructionsWriteOneFlag : Prop :=
  (∀ s : State,
    exec .clc s = .next { s with p := { s.p with c := false } } ∧
    exec .sec s = .next { s with p := { s.p with c := true } } ∧
    exec .cli s = .next { s with p := { s.p with i := false } } ∧
    exec .sei s = .next { s with p := { s.p with i := true } } ∧
    exec .clv s = .next { s with p := { s.p with v := false } } ∧
    exec .cld s = .next { s with p := { s.p with d := false } }) ∧
  slotsOf .clc = [
    ⟨0x18, .implied, 1, 2, .none⟩] ∧
  slotsOf .sec = [
    ⟨0x38, .implied, 1, 2, .none⟩] ∧
  slotsOf .cli = [
    ⟨0x58, .implied, 1, 2, .none⟩] ∧
  slotsOf .sei = [
    ⟨0x78, .implied, 1, 2, .none⟩] ∧
  slotsOf .clv = [
    ⟨0xB8, .implied, 1, 2, .none⟩] ∧
  slotsOf .cld = [
    ⟨0xD8, .implied, 1, 2, .none⟩]

/-- R256 and R272: sed. What a faulting instruction commits is the spec's decision D12. The slot of R90 is general
knowledge (G1). -/
def Obligations.SedHaltsTheCore : Prop :=
  (∀ s : State,
    exec .sed s = .next { s with halted := true, fault := some (.decimalModeUnsupported 0xF8 (s.pc - 1)) }) ∧
  slotsOf .sed = [
    ⟨0xF8, .implied, 1, 2, .none⟩]

/-- R257: nop. -/
def Obligations.NopChangesNothing : Prop :=
  (∀ s : State, exec .nop s = .next s) ∧
  slotsOf .nop = [
    ⟨0xEA, .implied, 1, 2, .none⟩]

/-- The lists of R21 to R24 and R35: all 151 constructors. -/
def Obligations.RegisterFrame : Prop :=
  ∀ (i : Instr) (s t : State), exec i s = .next t →
    (writesA i = false → t.a = s.a) ∧ (writesX i = false → t.x = s.x) ∧ (writesY i = false → t.y = s.y) ∧
    (writesSP i = false → t.sp = s.sp) ∧ (writesPC i = false → t.pc = s.pc)

/-- The table of R30: all 151 constructors. -/
def Obligations.FlagFrame : Prop :=
  ∀ (i : Instr) (s t : State), exec i s = .next t →
    (writesNZ i = false → t.p.n = s.p.n ∧ t.p.z = s.p.z) ∧ (writesV i = false → t.p.v = s.p.v) ∧
    (writesD i = false → t.p.d = s.p.d) ∧ (writesI i = false → t.p.i = s.p.i) ∧ (writesC i = false → t.p.c = s.p.c)

/-- R63 and R69: all 151 constructors, over every memory. -/
def Obligations.MemoryFrame : Prop :=
  ∀ (i : Instr) (s t : State) (a : Word), exec i s = .next t → a ∉ storedAddresses i s →
    t.mem.read a = s.mem.read a

/-- R3, R36 to R39, R270 to R272: all 151 constructors. -/
def Obligations.ControlStateFrame : Prop :=
  ∀ (i : Instr) (s t : State), exec i s = .next t →
    t.model = s.model ∧ t.dec = s.dec ∧ t.nmiPending = s.nmiPending ∧ t.irqPending = s.irqPending ∧
    t.resetApplied = s.resetApplied ∧ t.driver = s.driver ∧
    (canRaise i = false → t.halted = s.halted ∧ t.fault = s.fault)

/-- R120 and the ranges of R36 and R37, over ticks, resets, requests and driver writes, with every instruction. -/
def Obligations.EveryStepKeepsInvariant : Prop :=
  ∀ s t : State, s.Inv → step s = .next t → t.Inv

/-- Progress. R270 and R274: the fatal errors are states of the halted core (log 5), and R273 is raised by nothing. -/
def Obligations.EveryStepAnswersANextState : Prop :=
  (∀ s : State, s.Inv → s.resetApplied = true → ∃ t, step s = .next t ∧ t.resetApplied = true) ∧
  (∀ (s : State) (f : Fault), step s ≠ .fault f)

/-- R69 and R70: the effects become visible strictly on the last tick. PC moves only with a fetched byte (R35, R114,
R115), and only an invalid opcode halts the core here (R271, the spec's decision D11). -/
def Obligations.QuietTicksCommitNothing : Prop :=
  ∀ s t : State, s.driver = [] → step s = .next t →
    (∀ kind, s.InEntry kind → s.dec.cycleIndex + 1 ≠ 7) → (∀ d, s.InFlight d → ¬ s.retiresNow d) →
    t = { s with
      pc := t.pc
      dec := t.dec
      nmiPending := t.nmiPending
      irqPending := t.irqPending
      halted := t.halted
      fault := t.fault } ∧
    (t.pc = s.pc ∨ t.pc.toNat = (s.pc.toNat + 1) % 65536) ∧
    ((t.halted = s.halted ∧ t.fault = s.fault) ∨
      (s.dec.fetchNext = true ∧ descriptor (s.mem.read s.pc) = none ∧ t.halted = true ∧
        t.fault = some (.invalidOpcode (s.mem.read s.pc) s.pc)))

/-- R34: a rule of the whole machine, over every action and instruction. -/
def Obligations.DecimalFlagIsSetOnlyByPulls : Prop :=
  ∀ s t : State, step s = .next t → s.p.d = false → t.p.d = true →
    ∃ d, s.InFlight d ∧ s.retiresNow d ∧ (s.dec.opcodeByte = 0x28 ∨ s.dec.opcodeByte = 0x40)

/-- The laws L-PHA, L-PHP and L-JSR of 95_test_vectors.md and R289, wherever SP stands, wrap included. -/
def Obligations.StackRoundTrips : Prop :=
  ∀ (s : State) (addr : Word), s.mem.wf = true →
    (∃ t u, exec .pha s = .next t ∧ exec .pla t = .next u ∧ u.a = s.a ∧ u.sp = s.sp) ∧
    (∃ t u, exec .php s = .next t ∧ exec .plp t = .next u ∧ u.p = s.p ∧ u.sp = s.sp) ∧
    (∃ t u, exec (.jsr addr) s = .next t ∧ exec .rts t = .next u ∧ u.pc = s.pc ∧ u.sp = s.sp) ∧
    (∃ t u, exec .brk s = .next t ∧ exec .rti t = .next u ∧ u.pc = s.pc + 1 ∧ u.p = s.p ∧ u.sp = s.sp)

/-- R189 and conflict C3: the true laws, not the source's. -/
def Obligations.AdcThenSbcRestores : Prop :=
  ∀ (s : State) (m : Byte), s.p.d = false →
    (∃ t1 t2 t3 t4, exec .clc s = .next t1 ∧ exec (.adcImm m) t1 = .next t2 ∧ exec .sec t2 = .next t3 ∧
      exec (.sbcImm m) t3 = .next t4 ∧ t4.a = s.a) ∧
    (∃ t1 t2, exec (.adcImm m) s = .next t1 ∧ exec (.sbcImm m) t1 = .next t2 ∧
      ((t2.a = s.a ∧ t2.p.c = s.p.c) ↔ t1.p.c = !s.p.c))

/-- R68 and R71 (decisions D26 and D15); also before the first RESET (R306, decision D25). The action of one byte is
log 13, the driver's list is log 2. -/
def Obligations.DriverWriteChangesOneByte : Prop :=
  ∀ (s : State) (addr : Word) (v : Byte), s.mem.wf = true →
    let t := { s with mem := s.mem.write addr v }
    applyAction (.driverWrite addr v) s = .next t ∧
    (∀ b : Word, t.mem.read b = if b = addr then v else s.mem.read b) ∧ t.mem.wf = true ∧
    (∀ rest, s.driver = .driverWrite addr v :: rest → step s = .next { t with driver := rest })
end

