-- ==== Sys2Proof/Laws/Word.lean ====
section
/-! SUPPORT. The two bytes of a 16-bit value. -/

namespace Sys2Proof

theorem combine_toNat (lo hi : Byte) : (combine lo hi).toNat = lo.toNat + 256 * hi.toNat := by
  have h : (combine lo hi).toNat = hi.toNat <<< 8 ||| lo.toNat := BitVec.toNat_append hi lo
  rw [h, ← Nat.shiftLeft_add_eq_or_of_lt lo.isLt, Nat.shiftLeft_eq]
  omega

theorem lowByte_toNat (w : Word) : (lowByte w).toNat = w.toNat % 256 := by
  simp [lowByte]

theorem highByte_toNat (w : Word) : (highByte w).toNat = w.toNat / 256 := by
  have h := w.isLt
  simp only [highByte, BitVec.extractLsb'_toNat, Nat.shiftRight_eq_div_pow]
  omega

@[simp] theorem combine_low_high (w : Word) : combine (lowByte w) (highByte w) = w := by
  apply BitVec.eq_of_toNat_eq
  rw [combine_toNat, lowByte_toNat, highByte_toNat]
  omega

@[simp] theorem lowByte_combine (lo hi : Byte) : lowByte (combine lo hi) = lo := by
  apply BitVec.eq_of_toNat_eq
  have h := lo.isLt
  rw [lowByte_toNat, combine_toNat]
  omega

@[simp] theorem highByte_combine (lo hi : Byte) : highByte (combine lo hi) = hi := by
  apply BitVec.eq_of_toNat_eq
  have h := lo.isLt
  rw [highByte_toNat, combine_toNat]
  omega

end Sys2Proof
end

