-- ==== Sys2Proof/Laws/Matrix.lean ====
section
/-! SUPPORT. What every slot of the opcode matrix holds: the instruction a descriptor builds has its opcode value, its
operand bytes and its mode, and an operand byte it does not have makes no difference. -/

namespace Sys2Proof

/-- The law of one cell at an opcode value. -/
def CellLaw (opcode : Byte) (cell : Option Descriptor) : Prop :=
  ∀ d, cell = some d → ∀ op0 op1,
    encode (d.build op0 op1) = [opcode, op0, op1].take d.size ∧ (d.build op0 op1).mode = d.mode ∧
    (d.size = 1 → d.build op0 op1 = d.build 0 0) ∧ (d.size = 2 → d.build op0 op1 = d.build op0 0) ∧
    (d.size = 1 ∨ d.size = 2 ∨ d.size = 3)

theorem cellLaw_none (opcode : Byte) : CellLaw opcode none := fun _ h => nomatch h

theorem cellLaw_cell1 {opcode : Byte} {i : Instr} {mode : Mode} {base : Nat} (hs : mode.size = 1)
    (he : encode i = [opcode]) (hm : i.mode = mode) : CellLaw opcode (cell1 i mode base) := by
  intro d hd op0 op1
  injection hd with hd
  subst hd
  simp [Descriptor.size, hs, he, hm]

theorem cellLaw_cell2 {opcode : Byte} {f : Byte → Instr} {mode : Mode} {base : Nat} {penalty : Penalty}
    (hs : mode.size = 2) (he : ∀ op0, encode (f op0) = [opcode, op0]) (hm : ∀ op0, (f op0).mode = mode) :
    CellLaw opcode (cell2 f mode base penalty) := by
  intro d hd op0 op1
  injection hd with hd
  subst hd
  simp [Descriptor.size, hs, he, hm]

theorem cellLaw_cell3 {opcode : Byte} {f : Word → Instr} {mode : Mode} {base : Nat} {penalty : Penalty}
    (hs : mode.size = 3) (he : ∀ addr, encode (f addr) = [opcode, lowByte addr, highByte addr])
    (hm : ∀ addr, (f addr).mode = mode) : CellLaw opcode (cell3 f mode base penalty) := by
  intro d hd op0 op1
  injection hd with hd
  subst hd
  simp [Descriptor.size, hs, he, hm]

/-- The law of the sixteen cells of a row. -/
def RowLaw (high : Nat) (row : List (Option Descriptor)) : Prop :=
  ∀ low, low < 16 → CellLaw (BitVec.ofNat 8 (16 * high + low)) (row.getD low none)

theorem rowLaw_0 : RowLaw 0 matrixRow0 := by
  intro low h
  interval_cases low <;>
    first
    | exact cellLaw_none _
    | exact cellLaw_cell1 rfl rfl rfl
    | exact cellLaw_cell2 rfl (fun _ => rfl) (fun _ => rfl)
    | exact cellLaw_cell3 rfl (fun _ => rfl) (fun _ => rfl)

theorem rowLaw_1 : RowLaw 1 matrixRow1 := by
  intro low h
  interval_cases low <;>
    first
    | exact cellLaw_none _
    | exact cellLaw_cell1 rfl rfl rfl
    | exact cellLaw_cell2 rfl (fun _ => rfl) (fun _ => rfl)
    | exact cellLaw_cell3 rfl (fun _ => rfl) (fun _ => rfl)

theorem rowLaw_2 : RowLaw 2 matrixRow2 := by
  intro low h
  interval_cases low <;>
    first
    | exact cellLaw_none _
    | exact cellLaw_cell1 rfl rfl rfl
    | exact cellLaw_cell2 rfl (fun _ => rfl) (fun _ => rfl)
    | exact cellLaw_cell3 rfl (fun _ => rfl) (fun _ => rfl)

theorem rowLaw_3 : RowLaw 3 matrixRow3 := by
  intro low h
  interval_cases low <;>
    first
    | exact cellLaw_none _
    | exact cellLaw_cell1 rfl rfl rfl
    | exact cellLaw_cell2 rfl (fun _ => rfl) (fun _ => rfl)
    | exact cellLaw_cell3 rfl (fun _ => rfl) (fun _ => rfl)

theorem rowLaw_4 : RowLaw 4 matrixRow4 := by
  intro low h
  interval_cases low <;>
    first
    | exact cellLaw_none _
    | exact cellLaw_cell1 rfl rfl rfl
    | exact cellLaw_cell2 rfl (fun _ => rfl) (fun _ => rfl)
    | exact cellLaw_cell3 rfl (fun _ => rfl) (fun _ => rfl)

theorem rowLaw_5 : RowLaw 5 matrixRow5 := by
  intro low h
  interval_cases low <;>
    first
    | exact cellLaw_none _
    | exact cellLaw_cell1 rfl rfl rfl
    | exact cellLaw_cell2 rfl (fun _ => rfl) (fun _ => rfl)
    | exact cellLaw_cell3 rfl (fun _ => rfl) (fun _ => rfl)

theorem rowLaw_6 : RowLaw 6 matrixRow6 := by
  intro low h
  interval_cases low <;>
    first
    | exact cellLaw_none _
    | exact cellLaw_cell1 rfl rfl rfl
    | exact cellLaw_cell2 rfl (fun _ => rfl) (fun _ => rfl)
    | exact cellLaw_cell3 rfl (fun _ => rfl) (fun _ => rfl)

theorem rowLaw_7 : RowLaw 7 matrixRow7 := by
  intro low h
  interval_cases low <;>
    first
    | exact cellLaw_none _
    | exact cellLaw_cell1 rfl rfl rfl
    | exact cellLaw_cell2 rfl (fun _ => rfl) (fun _ => rfl)
    | exact cellLaw_cell3 rfl (fun _ => rfl) (fun _ => rfl)

theorem rowLaw_8 : RowLaw 8 matrixRow8 := by
  intro low h
  interval_cases low <;>
    first
    | exact cellLaw_none _
    | exact cellLaw_cell1 rfl rfl rfl
    | exact cellLaw_cell2 rfl (fun _ => rfl) (fun _ => rfl)
    | exact cellLaw_cell3 rfl (fun _ => rfl) (fun _ => rfl)

theorem rowLaw_9 : RowLaw 9 matrixRow9 := by
  intro low h
  interval_cases low <;>
    first
    | exact cellLaw_none _
    | exact cellLaw_cell1 rfl rfl rfl
    | exact cellLaw_cell2 rfl (fun _ => rfl) (fun _ => rfl)
    | exact cellLaw_cell3 rfl (fun _ => rfl) (fun _ => rfl)

theorem rowLaw_A : RowLaw 10 matrixRowA := by
  intro low h
  interval_cases low <;>
    first
    | exact cellLaw_none _
    | exact cellLaw_cell1 rfl rfl rfl
    | exact cellLaw_cell2 rfl (fun _ => rfl) (fun _ => rfl)
    | exact cellLaw_cell3 rfl (fun _ => rfl) (fun _ => rfl)

theorem rowLaw_B : RowLaw 11 matrixRowB := by
  intro low h
  interval_cases low <;>
    first
    | exact cellLaw_none _
    | exact cellLaw_cell1 rfl rfl rfl
    | exact cellLaw_cell2 rfl (fun _ => rfl) (fun _ => rfl)
    | exact cellLaw_cell3 rfl (fun _ => rfl) (fun _ => rfl)

theorem rowLaw_C : RowLaw 12 matrixRowC := by
  intro low h
  interval_cases low <;>
    first
    | exact cellLaw_none _
    | exact cellLaw_cell1 rfl rfl rfl
    | exact cellLaw_cell2 rfl (fun _ => rfl) (fun _ => rfl)
    | exact cellLaw_cell3 rfl (fun _ => rfl) (fun _ => rfl)

theorem rowLaw_D : RowLaw 13 matrixRowD := by
  intro low h
  interval_cases low <;>
    first
    | exact cellLaw_none _
    | exact cellLaw_cell1 rfl rfl rfl
    | exact cellLaw_cell2 rfl (fun _ => rfl) (fun _ => rfl)
    | exact cellLaw_cell3 rfl (fun _ => rfl) (fun _ => rfl)

theorem rowLaw_E : RowLaw 14 matrixRowE := by
  intro low h
  interval_cases low <;>
    first
    | exact cellLaw_none _
    | exact cellLaw_cell1 rfl rfl rfl
    | exact cellLaw_cell2 rfl (fun _ => rfl) (fun _ => rfl)
    | exact cellLaw_cell3 rfl (fun _ => rfl) (fun _ => rfl)

theorem rowLaw_F : RowLaw 15 matrixRowF := by
  intro low h
  interval_cases low <;>
    first
    | exact cellLaw_none _
    | exact cellLaw_cell1 rfl rfl rfl
    | exact cellLaw_cell2 rfl (fun _ => rfl) (fun _ => rfl)
    | exact cellLaw_cell3 rfl (fun _ => rfl) (fun _ => rfl)

theorem rowLaw_matrix (high : Nat) (h : high < 16) : RowLaw high (matrix.getD high []) := by
  interval_cases high
  exacts [rowLaw_0, rowLaw_1, rowLaw_2, rowLaw_3, rowLaw_4, rowLaw_5, rowLaw_6, rowLaw_7,
    rowLaw_8, rowLaw_9, rowLaw_A, rowLaw_B, rowLaw_C, rowLaw_D, rowLaw_E, rowLaw_F]

/-- The law of every slot. -/
theorem descriptor_law (opcode : Byte) : CellLaw opcode (descriptor opcode) := by
  have hlt := opcode.isLt
  have h := rowLaw_matrix (opcode.toNat / 16) (by omega) (opcode.toNat % 16) (by omega)
  rwa [show 16 * (opcode.toNat / 16) + opcode.toNat % 16 = opcode.toNat by omega, BitVec.ofNat_toNat,
    BitVec.setWidth_eq] at h

/-- The bytes of the instruction a descriptor builds. -/
theorem encode_build {opcode : Byte} {d : Descriptor} (h : descriptor opcode = some d) (op0 op1 : Byte) :
    encode (d.build op0 op1) = [opcode, op0, op1].take d.size :=
  (descriptor_law opcode d h op0 op1).1

/-- A descriptor's size is 1, 2 or 3. -/
theorem descriptor_size {opcode : Byte} {d : Descriptor} (h : descriptor opcode = some d) :
    d.size = 1 ∨ d.size = 2 ∨ d.size = 3 :=
  (descriptor_law opcode d h 0 0).2.2.2.2

end Sys2Proof
end

