-- ==== Sys2Proof/Laws/State.lean ====
section
/-! SUPPORT. One lemma per field per update of State, all true by definition. -/

namespace Sys2Proof.Machine

@[simp] theorem State.setA_model (v : Byte) (s : State) : (s.setA v).model = s.model := rfl
@[simp] theorem State.setA_a (v : Byte) (s : State) : (s.setA v).a = v := rfl
@[simp] theorem State.setA_x (v : Byte) (s : State) : (s.setA v).x = s.x := rfl
@[simp] theorem State.setA_y (v : Byte) (s : State) : (s.setA v).y = s.y := rfl
@[simp] theorem State.setA_sp (v : Byte) (s : State) : (s.setA v).sp = s.sp := rfl
@[simp] theorem State.setA_pc (v : Byte) (s : State) : (s.setA v).pc = s.pc := rfl
@[simp] theorem State.setA_p (v : Byte) (s : State) : (s.setA v).p = s.p := rfl
@[simp] theorem State.setA_dec (v : Byte) (s : State) : (s.setA v).dec = s.dec := rfl
@[simp] theorem State.setA_nmiPending (v : Byte) (s : State) : (s.setA v).nmiPending = s.nmiPending := rfl
@[simp] theorem State.setA_irqPending (v : Byte) (s : State) : (s.setA v).irqPending = s.irqPending := rfl
@[simp] theorem State.setA_halted (v : Byte) (s : State) : (s.setA v).halted = s.halted := rfl
@[simp] theorem State.setA_fault (v : Byte) (s : State) : (s.setA v).fault = s.fault := rfl
@[simp] theorem State.setA_mem (v : Byte) (s : State) : (s.setA v).mem = s.mem := rfl
@[simp] theorem State.setA_resetApplied (v : Byte) (s : State) : (s.setA v).resetApplied = s.resetApplied := rfl
@[simp] theorem State.setA_driver (v : Byte) (s : State) : (s.setA v).driver = s.driver := rfl

@[simp] theorem State.setX_model (v : Byte) (s : State) : (s.setX v).model = s.model := rfl
@[simp] theorem State.setX_a (v : Byte) (s : State) : (s.setX v).a = s.a := rfl
@[simp] theorem State.setX_x (v : Byte) (s : State) : (s.setX v).x = v := rfl
@[simp] theorem State.setX_y (v : Byte) (s : State) : (s.setX v).y = s.y := rfl
@[simp] theorem State.setX_sp (v : Byte) (s : State) : (s.setX v).sp = s.sp := rfl
@[simp] theorem State.setX_pc (v : Byte) (s : State) : (s.setX v).pc = s.pc := rfl
@[simp] theorem State.setX_p (v : Byte) (s : State) : (s.setX v).p = s.p := rfl
@[simp] theorem State.setX_dec (v : Byte) (s : State) : (s.setX v).dec = s.dec := rfl
@[simp] theorem State.setX_nmiPending (v : Byte) (s : State) : (s.setX v).nmiPending = s.nmiPending := rfl
@[simp] theorem State.setX_irqPending (v : Byte) (s : State) : (s.setX v).irqPending = s.irqPending := rfl
@[simp] theorem State.setX_halted (v : Byte) (s : State) : (s.setX v).halted = s.halted := rfl
@[simp] theorem State.setX_fault (v : Byte) (s : State) : (s.setX v).fault = s.fault := rfl
@[simp] theorem State.setX_mem (v : Byte) (s : State) : (s.setX v).mem = s.mem := rfl
@[simp] theorem State.setX_resetApplied (v : Byte) (s : State) : (s.setX v).resetApplied = s.resetApplied := rfl
@[simp] theorem State.setX_driver (v : Byte) (s : State) : (s.setX v).driver = s.driver := rfl

@[simp] theorem State.setY_model (v : Byte) (s : State) : (s.setY v).model = s.model := rfl
@[simp] theorem State.setY_a (v : Byte) (s : State) : (s.setY v).a = s.a := rfl
@[simp] theorem State.setY_x (v : Byte) (s : State) : (s.setY v).x = s.x := rfl
@[simp] theorem State.setY_y (v : Byte) (s : State) : (s.setY v).y = v := rfl
@[simp] theorem State.setY_sp (v : Byte) (s : State) : (s.setY v).sp = s.sp := rfl
@[simp] theorem State.setY_pc (v : Byte) (s : State) : (s.setY v).pc = s.pc := rfl
@[simp] theorem State.setY_p (v : Byte) (s : State) : (s.setY v).p = s.p := rfl
@[simp] theorem State.setY_dec (v : Byte) (s : State) : (s.setY v).dec = s.dec := rfl
@[simp] theorem State.setY_nmiPending (v : Byte) (s : State) : (s.setY v).nmiPending = s.nmiPending := rfl
@[simp] theorem State.setY_irqPending (v : Byte) (s : State) : (s.setY v).irqPending = s.irqPending := rfl
@[simp] theorem State.setY_halted (v : Byte) (s : State) : (s.setY v).halted = s.halted := rfl
@[simp] theorem State.setY_fault (v : Byte) (s : State) : (s.setY v).fault = s.fault := rfl
@[simp] theorem State.setY_mem (v : Byte) (s : State) : (s.setY v).mem = s.mem := rfl
@[simp] theorem State.setY_resetApplied (v : Byte) (s : State) : (s.setY v).resetApplied = s.resetApplied := rfl
@[simp] theorem State.setY_driver (v : Byte) (s : State) : (s.setY v).driver = s.driver := rfl

@[simp] theorem State.setSP_model (v : Byte) (s : State) : (s.setSP v).model = s.model := rfl
@[simp] theorem State.setSP_a (v : Byte) (s : State) : (s.setSP v).a = s.a := rfl
@[simp] theorem State.setSP_x (v : Byte) (s : State) : (s.setSP v).x = s.x := rfl
@[simp] theorem State.setSP_y (v : Byte) (s : State) : (s.setSP v).y = s.y := rfl
@[simp] theorem State.setSP_sp (v : Byte) (s : State) : (s.setSP v).sp = v := rfl
@[simp] theorem State.setSP_pc (v : Byte) (s : State) : (s.setSP v).pc = s.pc := rfl
@[simp] theorem State.setSP_p (v : Byte) (s : State) : (s.setSP v).p = s.p := rfl
@[simp] theorem State.setSP_dec (v : Byte) (s : State) : (s.setSP v).dec = s.dec := rfl
@[simp] theorem State.setSP_nmiPending (v : Byte) (s : State) : (s.setSP v).nmiPending = s.nmiPending := rfl
@[simp] theorem State.setSP_irqPending (v : Byte) (s : State) : (s.setSP v).irqPending = s.irqPending := rfl
@[simp] theorem State.setSP_halted (v : Byte) (s : State) : (s.setSP v).halted = s.halted := rfl
@[simp] theorem State.setSP_fault (v : Byte) (s : State) : (s.setSP v).fault = s.fault := rfl
@[simp] theorem State.setSP_mem (v : Byte) (s : State) : (s.setSP v).mem = s.mem := rfl
@[simp] theorem State.setSP_resetApplied (v : Byte) (s : State) : (s.setSP v).resetApplied = s.resetApplied := rfl
@[simp] theorem State.setSP_driver (v : Byte) (s : State) : (s.setSP v).driver = s.driver := rfl

@[simp] theorem State.setPC_model (v : Word) (s : State) : (s.setPC v).model = s.model := rfl
@[simp] theorem State.setPC_a (v : Word) (s : State) : (s.setPC v).a = s.a := rfl
@[simp] theorem State.setPC_x (v : Word) (s : State) : (s.setPC v).x = s.x := rfl
@[simp] theorem State.setPC_y (v : Word) (s : State) : (s.setPC v).y = s.y := rfl
@[simp] theorem State.setPC_sp (v : Word) (s : State) : (s.setPC v).sp = s.sp := rfl
@[simp] theorem State.setPC_pc (v : Word) (s : State) : (s.setPC v).pc = v := rfl
@[simp] theorem State.setPC_p (v : Word) (s : State) : (s.setPC v).p = s.p := rfl
@[simp] theorem State.setPC_dec (v : Word) (s : State) : (s.setPC v).dec = s.dec := rfl
@[simp] theorem State.setPC_nmiPending (v : Word) (s : State) : (s.setPC v).nmiPending = s.nmiPending := rfl
@[simp] theorem State.setPC_irqPending (v : Word) (s : State) : (s.setPC v).irqPending = s.irqPending := rfl
@[simp] theorem State.setPC_halted (v : Word) (s : State) : (s.setPC v).halted = s.halted := rfl
@[simp] theorem State.setPC_fault (v : Word) (s : State) : (s.setPC v).fault = s.fault := rfl
@[simp] theorem State.setPC_mem (v : Word) (s : State) : (s.setPC v).mem = s.mem := rfl
@[simp] theorem State.setPC_resetApplied (v : Word) (s : State) : (s.setPC v).resetApplied = s.resetApplied := rfl
@[simp] theorem State.setPC_driver (v : Word) (s : State) : (s.setPC v).driver = s.driver := rfl

@[simp] theorem State.setP_model (v : Status) (s : State) : (s.setP v).model = s.model := rfl
@[simp] theorem State.setP_a (v : Status) (s : State) : (s.setP v).a = s.a := rfl
@[simp] theorem State.setP_x (v : Status) (s : State) : (s.setP v).x = s.x := rfl
@[simp] theorem State.setP_y (v : Status) (s : State) : (s.setP v).y = s.y := rfl
@[simp] theorem State.setP_sp (v : Status) (s : State) : (s.setP v).sp = s.sp := rfl
@[simp] theorem State.setP_pc (v : Status) (s : State) : (s.setP v).pc = s.pc := rfl
@[simp] theorem State.setP_p (v : Status) (s : State) : (s.setP v).p = v := rfl
@[simp] theorem State.setP_dec (v : Status) (s : State) : (s.setP v).dec = s.dec := rfl
@[simp] theorem State.setP_nmiPending (v : Status) (s : State) : (s.setP v).nmiPending = s.nmiPending := rfl
@[simp] theorem State.setP_irqPending (v : Status) (s : State) : (s.setP v).irqPending = s.irqPending := rfl
@[simp] theorem State.setP_halted (v : Status) (s : State) : (s.setP v).halted = s.halted := rfl
@[simp] theorem State.setP_fault (v : Status) (s : State) : (s.setP v).fault = s.fault := rfl
@[simp] theorem State.setP_mem (v : Status) (s : State) : (s.setP v).mem = s.mem := rfl
@[simp] theorem State.setP_resetApplied (v : Status) (s : State) : (s.setP v).resetApplied = s.resetApplied := rfl
@[simp] theorem State.setP_driver (v : Status) (s : State) : (s.setP v).driver = s.driver := rfl

@[simp] theorem State.setDec_model (v : DecodeState) (s : State) : (s.setDec v).model = s.model := rfl
@[simp] theorem State.setDec_a (v : DecodeState) (s : State) : (s.setDec v).a = s.a := rfl
@[simp] theorem State.setDec_x (v : DecodeState) (s : State) : (s.setDec v).x = s.x := rfl
@[simp] theorem State.setDec_y (v : DecodeState) (s : State) : (s.setDec v).y = s.y := rfl
@[simp] theorem State.setDec_sp (v : DecodeState) (s : State) : (s.setDec v).sp = s.sp := rfl
@[simp] theorem State.setDec_pc (v : DecodeState) (s : State) : (s.setDec v).pc = s.pc := rfl
@[simp] theorem State.setDec_p (v : DecodeState) (s : State) : (s.setDec v).p = s.p := rfl
@[simp] theorem State.setDec_dec (v : DecodeState) (s : State) : (s.setDec v).dec = v := rfl
@[simp] theorem State.setDec_nmiPending (v : DecodeState) (s : State) : (s.setDec v).nmiPending = s.nmiPending := rfl
@[simp] theorem State.setDec_irqPending (v : DecodeState) (s : State) : (s.setDec v).irqPending = s.irqPending := rfl
@[simp] theorem State.setDec_halted (v : DecodeState) (s : State) : (s.setDec v).halted = s.halted := rfl
@[simp] theorem State.setDec_fault (v : DecodeState) (s : State) : (s.setDec v).fault = s.fault := rfl
@[simp] theorem State.setDec_mem (v : DecodeState) (s : State) : (s.setDec v).mem = s.mem := rfl
@[simp] theorem State.setDec_resetApplied (v : DecodeState) (s : State) : (s.setDec v).resetApplied = s.resetApplied := rfl
@[simp] theorem State.setDec_driver (v : DecodeState) (s : State) : (s.setDec v).driver = s.driver := rfl

@[simp] theorem State.setMem_model (v : Memory) (s : State) : (s.setMem v).model = s.model := rfl
@[simp] theorem State.setMem_a (v : Memory) (s : State) : (s.setMem v).a = s.a := rfl
@[simp] theorem State.setMem_x (v : Memory) (s : State) : (s.setMem v).x = s.x := rfl
@[simp] theorem State.setMem_y (v : Memory) (s : State) : (s.setMem v).y = s.y := rfl
@[simp] theorem State.setMem_sp (v : Memory) (s : State) : (s.setMem v).sp = s.sp := rfl
@[simp] theorem State.setMem_pc (v : Memory) (s : State) : (s.setMem v).pc = s.pc := rfl
@[simp] theorem State.setMem_p (v : Memory) (s : State) : (s.setMem v).p = s.p := rfl
@[simp] theorem State.setMem_dec (v : Memory) (s : State) : (s.setMem v).dec = s.dec := rfl
@[simp] theorem State.setMem_nmiPending (v : Memory) (s : State) : (s.setMem v).nmiPending = s.nmiPending := rfl
@[simp] theorem State.setMem_irqPending (v : Memory) (s : State) : (s.setMem v).irqPending = s.irqPending := rfl
@[simp] theorem State.setMem_halted (v : Memory) (s : State) : (s.setMem v).halted = s.halted := rfl
@[simp] theorem State.setMem_fault (v : Memory) (s : State) : (s.setMem v).fault = s.fault := rfl
@[simp] theorem State.setMem_mem (v : Memory) (s : State) : (s.setMem v).mem = v := rfl
@[simp] theorem State.setMem_resetApplied (v : Memory) (s : State) : (s.setMem v).resetApplied = s.resetApplied := rfl
@[simp] theorem State.setMem_driver (v : Memory) (s : State) : (s.setMem v).driver = s.driver := rfl

@[simp] theorem State.raise_model (e : Fault) (s : State) : (s.raise e).model = s.model := rfl
@[simp] theorem State.raise_a (e : Fault) (s : State) : (s.raise e).a = s.a := rfl
@[simp] theorem State.raise_x (e : Fault) (s : State) : (s.raise e).x = s.x := rfl
@[simp] theorem State.raise_y (e : Fault) (s : State) : (s.raise e).y = s.y := rfl
@[simp] theorem State.raise_sp (e : Fault) (s : State) : (s.raise e).sp = s.sp := rfl
@[simp] theorem State.raise_pc (e : Fault) (s : State) : (s.raise e).pc = s.pc := rfl
@[simp] theorem State.raise_p (e : Fault) (s : State) : (s.raise e).p = s.p := rfl
@[simp] theorem State.raise_dec (e : Fault) (s : State) : (s.raise e).dec = s.dec := rfl
@[simp] theorem State.raise_nmiPending (e : Fault) (s : State) : (s.raise e).nmiPending = s.nmiPending := rfl
@[simp] theorem State.raise_irqPending (e : Fault) (s : State) : (s.raise e).irqPending = s.irqPending := rfl
@[simp] theorem State.raise_halted (e : Fault) (s : State) : (s.raise e).halted = true := rfl
@[simp] theorem State.raise_fault (e : Fault) (s : State) : (s.raise e).fault = some e := rfl
@[simp] theorem State.raise_mem (e : Fault) (s : State) : (s.raise e).mem = s.mem := rfl
@[simp] theorem State.raise_resetApplied (e : Fault) (s : State) : (s.raise e).resetApplied = s.resetApplied := rfl
@[simp] theorem State.raise_driver (e : Fault) (s : State) : (s.raise e).driver = s.driver := rfl

@[simp] theorem State.clearDecode_model (s : State) : s.clearDecode.model = s.model := rfl
@[simp] theorem State.clearDecode_a (s : State) : s.clearDecode.a = s.a := rfl
@[simp] theorem State.clearDecode_x (s : State) : s.clearDecode.x = s.x := rfl
@[simp] theorem State.clearDecode_y (s : State) : s.clearDecode.y = s.y := rfl
@[simp] theorem State.clearDecode_sp (s : State) : s.clearDecode.sp = s.sp := rfl
@[simp] theorem State.clearDecode_pc (s : State) : s.clearDecode.pc = s.pc := rfl
@[simp] theorem State.clearDecode_p (s : State) : s.clearDecode.p = s.p := rfl
@[simp] theorem State.clearDecode_dec (s : State) : s.clearDecode.dec = DecodeState.boundary := rfl
@[simp] theorem State.clearDecode_nmiPending (s : State) : s.clearDecode.nmiPending = s.nmiPending := rfl
@[simp] theorem State.clearDecode_irqPending (s : State) : s.clearDecode.irqPending = s.irqPending := rfl
@[simp] theorem State.clearDecode_halted (s : State) : s.clearDecode.halted = s.halted := rfl
@[simp] theorem State.clearDecode_fault (s : State) : s.clearDecode.fault = s.fault := rfl
@[simp] theorem State.clearDecode_mem (s : State) : s.clearDecode.mem = s.mem := rfl
@[simp] theorem State.clearDecode_resetApplied (s : State) : s.clearDecode.resetApplied = s.resetApplied := rfl
@[simp] theorem State.clearDecode_driver (s : State) : s.clearDecode.driver = s.driver := rfl

@[simp] theorem State.setNZ_model (v : Byte) (s : State) : (s.setNZ v).model = s.model := rfl
@[simp] theorem State.setNZ_a (v : Byte) (s : State) : (s.setNZ v).a = s.a := rfl
@[simp] theorem State.setNZ_x (v : Byte) (s : State) : (s.setNZ v).x = s.x := rfl
@[simp] theorem State.setNZ_y (v : Byte) (s : State) : (s.setNZ v).y = s.y := rfl
@[simp] theorem State.setNZ_sp (v : Byte) (s : State) : (s.setNZ v).sp = s.sp := rfl
@[simp] theorem State.setNZ_pc (v : Byte) (s : State) : (s.setNZ v).pc = s.pc := rfl
@[simp] theorem State.setNZ_p (v : Byte) (s : State) : (s.setNZ v).p = s.p.setNZ v := rfl
@[simp] theorem State.setNZ_dec (v : Byte) (s : State) : (s.setNZ v).dec = s.dec := rfl
@[simp] theorem State.setNZ_nmiPending (v : Byte) (s : State) : (s.setNZ v).nmiPending = s.nmiPending := rfl
@[simp] theorem State.setNZ_irqPending (v : Byte) (s : State) : (s.setNZ v).irqPending = s.irqPending := rfl
@[simp] theorem State.setNZ_halted (v : Byte) (s : State) : (s.setNZ v).halted = s.halted := rfl
@[simp] theorem State.setNZ_fault (v : Byte) (s : State) : (s.setNZ v).fault = s.fault := rfl
@[simp] theorem State.setNZ_mem (v : Byte) (s : State) : (s.setNZ v).mem = s.mem := rfl
@[simp] theorem State.setNZ_resetApplied (v : Byte) (s : State) : (s.setNZ v).resetApplied = s.resetApplied := rfl
@[simp] theorem State.setNZ_driver (v : Byte) (s : State) : (s.setNZ v).driver = s.driver := rfl

@[simp] theorem State.store_model (addr : Word) (v : Byte) (s : State) : (s.store addr v).model = s.model := rfl
@[simp] theorem State.store_a (addr : Word) (v : Byte) (s : State) : (s.store addr v).a = s.a := rfl
@[simp] theorem State.store_x (addr : Word) (v : Byte) (s : State) : (s.store addr v).x = s.x := rfl
@[simp] theorem State.store_y (addr : Word) (v : Byte) (s : State) : (s.store addr v).y = s.y := rfl
@[simp] theorem State.store_sp (addr : Word) (v : Byte) (s : State) : (s.store addr v).sp = s.sp := rfl
@[simp] theorem State.store_pc (addr : Word) (v : Byte) (s : State) : (s.store addr v).pc = s.pc := rfl
@[simp] theorem State.store_p (addr : Word) (v : Byte) (s : State) : (s.store addr v).p = s.p := rfl
@[simp] theorem State.store_dec (addr : Word) (v : Byte) (s : State) : (s.store addr v).dec = s.dec := rfl
@[simp] theorem State.store_nmiPending (addr : Word) (v : Byte) (s : State) : (s.store addr v).nmiPending = s.nmiPending := rfl
@[simp] theorem State.store_irqPending (addr : Word) (v : Byte) (s : State) : (s.store addr v).irqPending = s.irqPending := rfl
@[simp] theorem State.store_halted (addr : Word) (v : Byte) (s : State) : (s.store addr v).halted = s.halted := rfl
@[simp] theorem State.store_fault (addr : Word) (v : Byte) (s : State) : (s.store addr v).fault = s.fault := rfl
@[simp] theorem State.store_mem (addr : Word) (v : Byte) (s : State) : (s.store addr v).mem = s.mem.write addr v := rfl
@[simp] theorem State.store_resetApplied (addr : Word) (v : Byte) (s : State) : (s.store addr v).resetApplied = s.resetApplied := rfl
@[simp] theorem State.store_driver (addr : Word) (v : Byte) (s : State) : (s.store addr v).driver = s.driver := rfl

@[simp] theorem State.push_model (v : Byte) (s : State) : (s.push v).model = s.model := rfl
@[simp] theorem State.push_a (v : Byte) (s : State) : (s.push v).a = s.a := rfl
@[simp] theorem State.push_x (v : Byte) (s : State) : (s.push v).x = s.x := rfl
@[simp] theorem State.push_y (v : Byte) (s : State) : (s.push v).y = s.y := rfl
@[simp] theorem State.push_sp (v : Byte) (s : State) : (s.push v).sp = s.sp - 1 := rfl
@[simp] theorem State.push_pc (v : Byte) (s : State) : (s.push v).pc = s.pc := rfl
@[simp] theorem State.push_p (v : Byte) (s : State) : (s.push v).p = s.p := rfl
@[simp] theorem State.push_dec (v : Byte) (s : State) : (s.push v).dec = s.dec := rfl
@[simp] theorem State.push_nmiPending (v : Byte) (s : State) : (s.push v).nmiPending = s.nmiPending := rfl
@[simp] theorem State.push_irqPending (v : Byte) (s : State) : (s.push v).irqPending = s.irqPending := rfl
@[simp] theorem State.push_halted (v : Byte) (s : State) : (s.push v).halted = s.halted := rfl
@[simp] theorem State.push_fault (v : Byte) (s : State) : (s.push v).fault = s.fault := rfl
@[simp] theorem State.push_mem (v : Byte) (s : State) : (s.push v).mem = s.mem.write (stackAddress s.sp) v := rfl
@[simp] theorem State.push_resetApplied (v : Byte) (s : State) : (s.push v).resetApplied = s.resetApplied := rfl
@[simp] theorem State.push_driver (v : Byte) (s : State) : (s.push v).driver = s.driver := rfl

@[simp] theorem State.pull_byte (s : State) : s.pull.1 = s.mem.read (stackAddress (s.sp + 1)) := rfl
@[simp] theorem State.pull_model (s : State) : s.pull.2.model = s.model := rfl
@[simp] theorem State.pull_a (s : State) : s.pull.2.a = s.a := rfl
@[simp] theorem State.pull_x (s : State) : s.pull.2.x = s.x := rfl
@[simp] theorem State.pull_y (s : State) : s.pull.2.y = s.y := rfl
@[simp] theorem State.pull_sp (s : State) : s.pull.2.sp = s.sp + 1 := rfl
@[simp] theorem State.pull_pc (s : State) : s.pull.2.pc = s.pc := rfl
@[simp] theorem State.pull_p (s : State) : s.pull.2.p = s.p := rfl
@[simp] theorem State.pull_dec (s : State) : s.pull.2.dec = s.dec := rfl
@[simp] theorem State.pull_nmiPending (s : State) : s.pull.2.nmiPending = s.nmiPending := rfl
@[simp] theorem State.pull_irqPending (s : State) : s.pull.2.irqPending = s.irqPending := rfl
@[simp] theorem State.pull_halted (s : State) : s.pull.2.halted = s.halted := rfl
@[simp] theorem State.pull_fault (s : State) : s.pull.2.fault = s.fault := rfl
@[simp] theorem State.pull_mem (s : State) : s.pull.2.mem = s.mem := rfl
@[simp] theorem State.pull_resetApplied (s : State) : s.pull.2.resetApplied = s.resetApplied := rfl
@[simp] theorem State.pull_driver (s : State) : s.pull.2.driver = s.driver := rfl

@[simp] theorem Status.setNZ_v (b : Byte) (p : Status) : (p.setNZ b).v = p.v := rfl
@[simp] theorem Status.setNZ_d (b : Byte) (p : Status) : (p.setNZ b).d = p.d := rfl
@[simp] theorem Status.setNZ_i (b : Byte) (p : Status) : (p.setNZ b).i = p.i := rfl
@[simp] theorem Status.setNZ_c (b : Byte) (p : Status) : (p.setNZ b).c = p.c := rfl
@[simp] theorem Status.setNZC_v (b : Byte) (c : Bool) (p : Status) : (p.setNZC b c).v = p.v := rfl
@[simp] theorem Status.setNZC_d (b : Byte) (c : Bool) (p : Status) : (p.setNZC b c).d = p.d := rfl
@[simp] theorem Status.setNZC_i (b : Byte) (c : Bool) (p : Status) : (p.setNZC b c).i = p.i := rfl
@[simp] theorem Status.setNZC_c (b : Byte) (c : Bool) (p : Status) : (p.setNZC b c).c = c := rfl
@[simp] theorem Status.setAdd_d (a m : Byte) (p : Status) : (p.setAdd a m).d = p.d := rfl
@[simp] theorem Status.setAdd_i (a m : Byte) (p : Status) : (p.setAdd a m).i = p.i := rfl
@[simp] theorem Status.setBit_d (a m : Byte) (p : Status) : (p.setBit a m).d = p.d := rfl
@[simp] theorem Status.setBit_i (a m : Byte) (p : Status) : (p.setBit a m).i = p.i := rfl
@[simp] theorem Status.setBit_c (a m : Byte) (p : Status) : (p.setBit a m).c = p.c := rfl

end Sys2Proof.Machine
end

