-- ==== Sys2Proof/Laws/Memory.lean ====
section
/-! SUPPORT. Memory's canonical form: every memory operation keeps it. -/

namespace Sys2Proof.Machine

theorem Memory.wfFrom_mono {k l : Nat} (m : Memory) (hkl : k ≤ l) (h : m.wfFrom l = true) : m.wfFrom k = true := by
  cases m with
  | nil => rfl
  | cons c rest =>
    simp only [Memory.wfFrom, Bool.and_eq_true, decide_eq_true_eq] at h ⊢
    exact ⟨⟨⟨by omega, h.1.1.2⟩, h.1.2⟩, h.2⟩

/-- A canonical memory lists nothing below its first address. -/
theorem Memory.readAt_below {l : Nat} (m : Memory) (a : Nat) (h : m.wfFrom l = true) (ha : a < l) :
    m.readAt a = unlistedByte := by
  induction m generalizing l with
  | nil => rfl
  | cons c rest ih =>
    simp only [Memory.wfFrom, Bool.and_eq_true, decide_eq_true_eq] at h
    rw [Memory.readAt, if_neg (by omega)]
    exact ih h.2 (by omega)

theorem Memory.writeAt_wfFrom {l : Nat} (m : Memory) (a : Nat) (v : Byte) (h : m.wfFrom l = true) (hl : l ≤ a)
    (ha : a < 65536) : (m.writeAt a v).wfFrom l = true := by
  induction m generalizing l with
  | nil =>
    unfold Memory.writeAt
    split
    · rfl
    · next hv => simp [Memory.wfFrom, hl, ha, hv]
  | cons c rest ih =>
    have hc := h
    simp only [Memory.wfFrom, Bool.and_eq_true, decide_eq_true_eq] at h
    unfold Memory.writeAt
    split
    · next hlt =>
      split
      · exact hc
      · next hv =>
        simp only [Memory.wfFrom, Bool.and_eq_true, decide_eq_true_eq]
        exact ⟨⟨⟨hl, ha⟩, by simpa using hv⟩, ⟨⟨⟨by omega, h.1.1.2⟩, h.1.2⟩, h.2⟩⟩
    · split
      · next heq =>
        split
        · exact Memory.wfFrom_mono rest (by omega) h.2
        · next hv =>
          simp only [Memory.wfFrom, Bool.and_eq_true, decide_eq_true_eq]
          exact ⟨⟨⟨hl, ha⟩, by simpa using hv⟩, heq ▸ h.2⟩
      · simp only [Memory.wfFrom, Bool.and_eq_true, decide_eq_true_eq]
        exact ⟨h.1, ih h.2 (by omega)⟩

theorem Memory.write_wf (m : Memory) (addr : Word) (v : Byte) (h : m.wf = true) : (m.write addr v).wf = true :=
  Memory.writeAt_wfFrom m addr.toNat v h (Nat.zero_le _) addr.isLt

theorem Memory.place_wf (bytes : List Byte) (m : Memory) (addr : Word) (h : m.wf = true) :
    (m.place addr bytes).wf = true := by
  induction bytes generalizing m addr with
  | nil => exact h
  | cons v rest ih => exact ih _ _ (Memory.write_wf m addr v h)

/-- Memory right after reset is canonical. -/
theorem reset_mem_wf : State.reset.mem.wf = true := rfl

end Sys2Proof.Machine
end

