-- ==== Sys2Proof/Laws/Ops.lean ====
section
/-! SUPPORT. One lemma per shared operation: everything it does, as one record. Cite these instead of unfolding. -/

namespace Sys2Proof.Machine

theorem State.push_eq (v : Byte) (s : State) :
    s.push v = { s with mem := s.mem.write (stackAddress s.sp) v, sp := s.sp - 1 } := rfl

theorem State.pull_eq (s : State) :
    s.pull = (s.mem.read (stackAddress (s.sp + 1)), { s with sp := s.sp + 1 }) := rfl

theorem State.pushWord_eq (w : Word) (s : State) :
    s.pushWord w = { s with
      mem := (s.mem.write (stackAddress s.sp) (highByte w)).write (stackAddress (s.sp - 1)) (lowByte w)
      sp := s.sp - 1 - 1 } := rfl

theorem State.pullWord_eq (s : State) :
    s.pullWord =
      (combine (s.mem.read (stackAddress (s.sp + 1))) (s.mem.read (stackAddress (s.sp + 1 + 1))),
        { s with sp := s.sp + 1 + 1 }) := rfl

/-- The three bytes an entry stores. -/
def State.entryMemory (stackedP : Byte) (s : State) : Memory :=
  (((s.mem.write (stackAddress s.sp) (highByte s.pc)).write (stackAddress (s.sp - 1)) (lowByte s.pc)).write
    (stackAddress (s.sp - 1 - 1)) stackedP)

theorem State.entryPushes_eq (stackedP : Byte) (s : State) :
    (s.pushWord s.pc).push stackedP = { s with mem := s.entryMemory stackedP, sp := s.sp - 1 - 1 - 1 } := rfl

theorem State.enterHandler_eq (vector : Word) (stackedP : Byte) (s : State) :
    s.enterHandler vector stackedP = { s with
      mem := s.entryMemory stackedP
      sp := s.sp - 1 - 1 - 1
      p := { s.p with i := true }
      pc := (s.entryMemory stackedP).readWord vector } := by
  unfold State.enterHandler
  rw [State.entryPushes_eq]
  rfl

theorem State.returnFromHandler_eq (s : State) :
    s.returnFromHandler = { s with
      p := Status.unpack (s.mem.read (stackAddress (s.sp + 1)))
      sp := s.sp + 1 + 1 + 1
      pc := combine (s.mem.read (stackAddress (s.sp + 1 + 1))) (s.mem.read (stackAddress (s.sp + 1 + 1 + 1))) } := rfl

theorem State.loadA_eq (m : Byte) (s : State) : s.loadA m = { s with a := m, p := s.p.setNZ m } := rfl

theorem State.loadX_eq (m : Byte) (s : State) : s.loadX m = { s with x := m, p := s.p.setNZ m } := rfl

theorem State.loadY_eq (m : Byte) (s : State) : s.loadY m = { s with y := m, p := s.p.setNZ m } := rfl

theorem State.testBits_eq (m : Byte) (s : State) : s.testBits m = { s with p := s.p.setBit s.a m } := rfl

theorem State.addToA_eq (m : Byte) (s : State) :
    s.addToA m = { s with a := addByte s.a m s.p.c, p := s.p.setAdd s.a m } := rfl

theorem State.compare_eq (reg m : Byte) (s : State) : s.compare reg m = { s with p := s.p.setCompare reg m } := rfl

theorem State.shiftA_eq (f : Shifter) (s : State) :
    s.shiftA f = { s with a := (f s.a s.p.c).1, p := s.p.setNZC (f s.a s.p.c).1 (f s.a s.p.c).2 } := rfl

theorem State.shiftAt_eq (f : Shifter) (addr : Word) (s : State) :
    s.shiftAt f addr = { s with
      mem := s.mem.write addr (f (s.mem.read addr) s.p.c).1
      p := s.p.setNZC (f (s.mem.read addr) s.p.c).1 (f (s.mem.read addr) s.p.c).2 } := rfl

theorem State.modifyAt_eq (r : Byte → Byte) (addr : Word) (s : State) :
    s.modifyAt r addr = { s with
      mem := s.mem.write addr (r (s.mem.read addr))
      p := s.p.setNZ (r (s.mem.read addr)) } := rfl

theorem State.branchIf_eq (c : Cond) (off : Byte) (s : State) :
    s.branchIf c off = { s with pc := if Cond.holds c s.p then branchTarget off s else s.pc } := by
  unfold State.branchIf
  split <;> rfl

/-- ADC and SBC answer a next state on every path: the body, or the fatal error when D = 1. -/
theorem unlessDecimal_eq (opcode : Byte) (size : Word) (body : State → State) (s : State) :
    unlessDecimal opcode size body s =
      .next (if s.p.d then s.raise (.decimalModeUnsupported opcode (s.pc - size)) else body s) := by
  unfold unlessDecimal
  split <;> rfl

theorem State.requestInterrupt_eq (kind : IntKind) (s : State) :
    s.requestInterrupt kind = { s with
      nmiPending := s.nmiPending || kind == .nmi
      irqPending := s.irqPending || (kind == .irq && !s.p.i) } := by
  cases kind
  · cases h : s.p.i <;> simp [State.requestInterrupt, h, show (IntKind.irq == IntKind.nmi) = false from rfl]
  · simp [State.requestInterrupt, show (IntKind.nmi == IntKind.irq) = false from rfl]

theorem State.store_wf (addr : Word) (v : Byte) (s : State) (h : s.mem.wf = true) : (s.store addr v).mem.wf = true :=
  Memory.write_wf s.mem addr v h

theorem State.push_wf (v : Byte) (s : State) (h : s.mem.wf = true) : (s.push v).mem.wf = true :=
  Memory.write_wf s.mem _ v h

theorem State.pushWord_wf (w : Word) (s : State) (h : s.mem.wf = true) : (s.pushWord w).mem.wf = true :=
  State.push_wf _ _ (State.push_wf _ s h)

theorem State.enterHandler_wf (vector : Word) (stackedP : Byte) (s : State) (h : s.mem.wf = true) :
    (s.enterHandler vector stackedP).mem.wf = true :=
  State.push_wf _ _ (State.pushWord_wf _ s h)

theorem State.shiftAt_wf (f : Shifter) (addr : Word) (s : State) (h : s.mem.wf = true) :
    (s.shiftAt f addr).mem.wf = true :=
  Memory.write_wf s.mem addr _ h

theorem State.modifyAt_wf (r : Byte → Byte) (addr : Word) (s : State) (h : s.mem.wf = true) :
    (s.modifyAt r addr).mem.wf = true :=
  Memory.write_wf s.mem addr _ h

end Sys2Proof.Machine
end

