-- ==== Sys2Proof/Laws/PerInstr.lean ====
section
/-! SUPPORT. The family `Slots`, about every instruction as syntax: the matrix has a slot for its opcode byte, that slot
builds the instruction back from its operand bytes and has its mode, and its encoding is the opcode and the operand
bytes that the mode's size says. One lemma per constructor. -/

namespace Sys2Proof.Laws.Slots

/-- What the slot of an instruction's opcode holds. -/
def Statement (i : Instr) : Prop :=
  ∃ d, descriptor i.opcode = some d ∧ d.build i.op0 i.op1 = i ∧ d.mode = i.mode ∧
    encode i = [i.opcode, i.op0, i.op1].take i.size

/-- A slot of a one-byte or two-byte instruction, from its opcode value. -/
theorem of_byte {i : Instr} (d : Descriptor) (opcode : Byte) (ho : i.opcode = opcode) (hd : descriptor opcode = some d)
    (hb : d.build i.op0 i.op1 = i) (hm : d.mode = i.mode) (he : encode i = [i.opcode, i.op0, i.op1].take i.size) :
    Statement i :=
  ⟨d, ho ▸ hd, hb, hm, he⟩

/-- A slot of a three-byte instruction: its operand comes back from its two bytes. -/
theorem of_word {i : Instr} (f : Word → Instr) (addr : Word) (d : Descriptor) (opcode : Byte) (ho : i.opcode = opcode)
    (hd : descriptor opcode = some d) (hi : i = f addr)
    (hb : d.build i.op0 i.op1 = f (combine (lowByte addr) (highByte addr)))
    (hm : d.mode = i.mode) (he : encode i = [i.opcode, i.op0, i.op1].take i.size) : Statement i :=
  ⟨d, ho ▸ hd, by rw [hb, combine_low_high, hi], hm, he⟩

theorem ldaImm (op0 : Byte) : Statement (.ldaImm op0) :=
  of_byte ⟨.immediate, 2, .none, fun op0 _ => .ldaImm op0⟩ 0xA9 rfl rfl rfl rfl rfl
theorem ldaZp (op0 : Byte) : Statement (.ldaZp op0) :=
  of_byte ⟨.zeroPage, 3, .none, fun op0 _ => .ldaZp op0⟩ 0xA5 rfl rfl rfl rfl rfl
theorem ldaZpX (op0 : Byte) : Statement (.ldaZpX op0) :=
  of_byte ⟨.zeroPageX, 4, .none, fun op0 _ => .ldaZpX op0⟩ 0xB5 rfl rfl rfl rfl rfl
theorem ldaAbs (addr : Word) : Statement (.ldaAbs addr) :=
  of_word .ldaAbs addr ⟨.absolute, 4, .none, fun op0 op1 => .ldaAbs (combine op0 op1)⟩ 0xAD rfl rfl rfl rfl rfl rfl
theorem ldaAbsX (addr : Word) : Statement (.ldaAbsX addr) :=
  of_word .ldaAbsX addr ⟨.absoluteX, 4, .page, fun op0 op1 => .ldaAbsX (combine op0 op1)⟩ 0xBD rfl rfl rfl rfl rfl rfl
theorem ldaAbsY (addr : Word) : Statement (.ldaAbsY addr) :=
  of_word .ldaAbsY addr ⟨.absoluteY, 4, .page, fun op0 op1 => .ldaAbsY (combine op0 op1)⟩ 0xB9 rfl rfl rfl rfl rfl rfl
theorem ldaIndX (op0 : Byte) : Statement (.ldaIndX op0) :=
  of_byte ⟨.indirectX, 6, .none, fun op0 _ => .ldaIndX op0⟩ 0xA1 rfl rfl rfl rfl rfl
theorem ldaIndY (op0 : Byte) : Statement (.ldaIndY op0) :=
  of_byte ⟨.indirectY, 5, .page, fun op0 _ => .ldaIndY op0⟩ 0xB1 rfl rfl rfl rfl rfl
theorem ldxImm (op0 : Byte) : Statement (.ldxImm op0) :=
  of_byte ⟨.immediate, 2, .none, fun op0 _ => .ldxImm op0⟩ 0xA2 rfl rfl rfl rfl rfl
theorem ldxZp (op0 : Byte) : Statement (.ldxZp op0) :=
  of_byte ⟨.zeroPage, 3, .none, fun op0 _ => .ldxZp op0⟩ 0xA6 rfl rfl rfl rfl rfl
theorem ldxZpY (op0 : Byte) : Statement (.ldxZpY op0) :=
  of_byte ⟨.zeroPageY, 4, .none, fun op0 _ => .ldxZpY op0⟩ 0xB6 rfl rfl rfl rfl rfl
theorem ldxAbs (addr : Word) : Statement (.ldxAbs addr) :=
  of_word .ldxAbs addr ⟨.absolute, 4, .none, fun op0 op1 => .ldxAbs (combine op0 op1)⟩ 0xAE rfl rfl rfl rfl rfl rfl
theorem ldxAbsY (addr : Word) : Statement (.ldxAbsY addr) :=
  of_word .ldxAbsY addr ⟨.absoluteY, 4, .page, fun op0 op1 => .ldxAbsY (combine op0 op1)⟩ 0xBE rfl rfl rfl rfl rfl rfl
theorem ldyImm (op0 : Byte) : Statement (.ldyImm op0) :=
  of_byte ⟨.immediate, 2, .none, fun op0 _ => .ldyImm op0⟩ 0xA0 rfl rfl rfl rfl rfl
theorem ldyZp (op0 : Byte) : Statement (.ldyZp op0) :=
  of_byte ⟨.zeroPage, 3, .none, fun op0 _ => .ldyZp op0⟩ 0xA4 rfl rfl rfl rfl rfl
theorem ldyZpX (op0 : Byte) : Statement (.ldyZpX op0) :=
  of_byte ⟨.zeroPageX, 4, .none, fun op0 _ => .ldyZpX op0⟩ 0xB4 rfl rfl rfl rfl rfl
theorem ldyAbs (addr : Word) : Statement (.ldyAbs addr) :=
  of_word .ldyAbs addr ⟨.absolute, 4, .none, fun op0 op1 => .ldyAbs (combine op0 op1)⟩ 0xAC rfl rfl rfl rfl rfl rfl
theorem ldyAbsX (addr : Word) : Statement (.ldyAbsX addr) :=
  of_word .ldyAbsX addr ⟨.absoluteX, 4, .page, fun op0 op1 => .ldyAbsX (combine op0 op1)⟩ 0xBC rfl rfl rfl rfl rfl rfl
theorem staZp (op0 : Byte) : Statement (.staZp op0) :=
  of_byte ⟨.zeroPage, 3, .none, fun op0 _ => .staZp op0⟩ 0x85 rfl rfl rfl rfl rfl
theorem staZpX (op0 : Byte) : Statement (.staZpX op0) :=
  of_byte ⟨.zeroPageX, 4, .none, fun op0 _ => .staZpX op0⟩ 0x95 rfl rfl rfl rfl rfl
theorem staAbs (addr : Word) : Statement (.staAbs addr) :=
  of_word .staAbs addr ⟨.absolute, 4, .none, fun op0 op1 => .staAbs (combine op0 op1)⟩ 0x8D rfl rfl rfl rfl rfl rfl
theorem staAbsX (addr : Word) : Statement (.staAbsX addr) :=
  of_word .staAbsX addr ⟨.absoluteX, 5, .none, fun op0 op1 => .staAbsX (combine op0 op1)⟩ 0x9D rfl rfl rfl rfl rfl rfl
theorem staAbsY (addr : Word) : Statement (.staAbsY addr) :=
  of_word .staAbsY addr ⟨.absoluteY, 5, .none, fun op0 op1 => .staAbsY (combine op0 op1)⟩ 0x99 rfl rfl rfl rfl rfl rfl
theorem staIndX (op0 : Byte) : Statement (.staIndX op0) :=
  of_byte ⟨.indirectX, 6, .none, fun op0 _ => .staIndX op0⟩ 0x81 rfl rfl rfl rfl rfl
theorem staIndY (op0 : Byte) : Statement (.staIndY op0) :=
  of_byte ⟨.indirectY, 6, .none, fun op0 _ => .staIndY op0⟩ 0x91 rfl rfl rfl rfl rfl
theorem stxZp (op0 : Byte) : Statement (.stxZp op0) :=
  of_byte ⟨.zeroPage, 3, .none, fun op0 _ => .stxZp op0⟩ 0x86 rfl rfl rfl rfl rfl
theorem stxZpY (op0 : Byte) : Statement (.stxZpY op0) :=
  of_byte ⟨.zeroPageY, 4, .none, fun op0 _ => .stxZpY op0⟩ 0x96 rfl rfl rfl rfl rfl
theorem stxAbs (addr : Word) : Statement (.stxAbs addr) :=
  of_word .stxAbs addr ⟨.absolute, 4, .none, fun op0 op1 => .stxAbs (combine op0 op1)⟩ 0x8E rfl rfl rfl rfl rfl rfl
theorem styZp (op0 : Byte) : Statement (.styZp op0) :=
  of_byte ⟨.zeroPage, 3, .none, fun op0 _ => .styZp op0⟩ 0x84 rfl rfl rfl rfl rfl
theorem styZpX (op0 : Byte) : Statement (.styZpX op0) :=
  of_byte ⟨.zeroPageX, 4, .none, fun op0 _ => .styZpX op0⟩ 0x94 rfl rfl rfl rfl rfl
theorem styAbs (addr : Word) : Statement (.styAbs addr) :=
  of_word .styAbs addr ⟨.absolute, 4, .none, fun op0 op1 => .styAbs (combine op0 op1)⟩ 0x8C rfl rfl rfl rfl rfl rfl
theorem tax : Statement (.tax) :=
  of_byte ⟨.implied, 2, .none, fun _ _ => .tax⟩ 0xAA rfl rfl rfl rfl rfl
theorem tay : Statement (.tay) :=
  of_byte ⟨.implied, 2, .none, fun _ _ => .tay⟩ 0xA8 rfl rfl rfl rfl rfl
theorem txa : Statement (.txa) :=
  of_byte ⟨.implied, 2, .none, fun _ _ => .txa⟩ 0x8A rfl rfl rfl rfl rfl
theorem tya : Statement (.tya) :=
  of_byte ⟨.implied, 2, .none, fun _ _ => .tya⟩ 0x98 rfl rfl rfl rfl rfl
theorem tsx : Statement (.tsx) :=
  of_byte ⟨.implied, 2, .none, fun _ _ => .tsx⟩ 0xBA rfl rfl rfl rfl rfl
theorem txs : Statement (.txs) :=
  of_byte ⟨.implied, 2, .none, fun _ _ => .txs⟩ 0x9A rfl rfl rfl rfl rfl
theorem pha : Statement (.pha) :=
  of_byte ⟨.implied, 3, .none, fun _ _ => .pha⟩ 0x48 rfl rfl rfl rfl rfl
theorem php : Statement (.php) :=
  of_byte ⟨.implied, 3, .none, fun _ _ => .php⟩ 0x08 rfl rfl rfl rfl rfl
theorem pla : Statement (.pla) :=
  of_byte ⟨.implied, 4, .none, fun _ _ => .pla⟩ 0x68 rfl rfl rfl rfl rfl
theorem plp : Statement (.plp) :=
  of_byte ⟨.implied, 4, .none, fun _ _ => .plp⟩ 0x28 rfl rfl rfl rfl rfl
theorem andImm (op0 : Byte) : Statement (.andImm op0) :=
  of_byte ⟨.immediate, 2, .none, fun op0 _ => .andImm op0⟩ 0x29 rfl rfl rfl rfl rfl
theorem andZp (op0 : Byte) : Statement (.andZp op0) :=
  of_byte ⟨.zeroPage, 3, .none, fun op0 _ => .andZp op0⟩ 0x25 rfl rfl rfl rfl rfl
theorem andZpX (op0 : Byte) : Statement (.andZpX op0) :=
  of_byte ⟨.zeroPageX, 4, .none, fun op0 _ => .andZpX op0⟩ 0x35 rfl rfl rfl rfl rfl
theorem andAbs (addr : Word) : Statement (.andAbs addr) :=
  of_word .andAbs addr ⟨.absolute, 4, .none, fun op0 op1 => .andAbs (combine op0 op1)⟩ 0x2D rfl rfl rfl rfl rfl rfl
theorem andAbsX (addr : Word) : Statement (.andAbsX addr) :=
  of_word .andAbsX addr ⟨.absoluteX, 4, .page, fun op0 op1 => .andAbsX (combine op0 op1)⟩ 0x3D rfl rfl rfl rfl rfl rfl
theorem andAbsY (addr : Word) : Statement (.andAbsY addr) :=
  of_word .andAbsY addr ⟨.absoluteY, 4, .page, fun op0 op1 => .andAbsY (combine op0 op1)⟩ 0x39 rfl rfl rfl rfl rfl rfl
theorem andIndX (op0 : Byte) : Statement (.andIndX op0) :=
  of_byte ⟨.indirectX, 6, .none, fun op0 _ => .andIndX op0⟩ 0x21 rfl rfl rfl rfl rfl
theorem andIndY (op0 : Byte) : Statement (.andIndY op0) :=
  of_byte ⟨.indirectY, 5, .page, fun op0 _ => .andIndY op0⟩ 0x31 rfl rfl rfl rfl rfl
theorem oraImm (op0 : Byte) : Statement (.oraImm op0) :=
  of_byte ⟨.immediate, 2, .none, fun op0 _ => .oraImm op0⟩ 0x09 rfl rfl rfl rfl rfl
theorem oraZp (op0 : Byte) : Statement (.oraZp op0) :=
  of_byte ⟨.zeroPage, 3, .none, fun op0 _ => .oraZp op0⟩ 0x05 rfl rfl rfl rfl rfl
theorem oraZpX (op0 : Byte) : Statement (.oraZpX op0) :=
  of_byte ⟨.zeroPageX, 4, .none, fun op0 _ => .oraZpX op0⟩ 0x15 rfl rfl rfl rfl rfl
theorem oraAbs (addr : Word) : Statement (.oraAbs addr) :=
  of_word .oraAbs addr ⟨.absolute, 4, .none, fun op0 op1 => .oraAbs (combine op0 op1)⟩ 0x0D rfl rfl rfl rfl rfl rfl
theorem oraAbsX (addr : Word) : Statement (.oraAbsX addr) :=
  of_word .oraAbsX addr ⟨.absoluteX, 4, .page, fun op0 op1 => .oraAbsX (combine op0 op1)⟩ 0x1D rfl rfl rfl rfl rfl rfl
theorem oraAbsY (addr : Word) : Statement (.oraAbsY addr) :=
  of_word .oraAbsY addr ⟨.absoluteY, 4, .page, fun op0 op1 => .oraAbsY (combine op0 op1)⟩ 0x19 rfl rfl rfl rfl rfl rfl
theorem oraIndX (op0 : Byte) : Statement (.oraIndX op0) :=
  of_byte ⟨.indirectX, 6, .none, fun op0 _ => .oraIndX op0⟩ 0x01 rfl rfl rfl rfl rfl
theorem oraIndY (op0 : Byte) : Statement (.oraIndY op0) :=
  of_byte ⟨.indirectY, 5, .page, fun op0 _ => .oraIndY op0⟩ 0x11 rfl rfl rfl rfl rfl
theorem eorImm (op0 : Byte) : Statement (.eorImm op0) :=
  of_byte ⟨.immediate, 2, .none, fun op0 _ => .eorImm op0⟩ 0x49 rfl rfl rfl rfl rfl
theorem eorZp (op0 : Byte) : Statement (.eorZp op0) :=
  of_byte ⟨.zeroPage, 3, .none, fun op0 _ => .eorZp op0⟩ 0x45 rfl rfl rfl rfl rfl
theorem eorZpX (op0 : Byte) : Statement (.eorZpX op0) :=
  of_byte ⟨.zeroPageX, 4, .none, fun op0 _ => .eorZpX op0⟩ 0x55 rfl rfl rfl rfl rfl
theorem eorAbs (addr : Word) : Statement (.eorAbs addr) :=
  of_word .eorAbs addr ⟨.absolute, 4, .none, fun op0 op1 => .eorAbs (combine op0 op1)⟩ 0x4D rfl rfl rfl rfl rfl rfl
theorem eorAbsX (addr : Word) : Statement (.eorAbsX addr) :=
  of_word .eorAbsX addr ⟨.absoluteX, 4, .page, fun op0 op1 => .eorAbsX (combine op0 op1)⟩ 0x5D rfl rfl rfl rfl rfl rfl
theorem eorAbsY (addr : Word) : Statement (.eorAbsY addr) :=
  of_word .eorAbsY addr ⟨.absoluteY, 4, .page, fun op0 op1 => .eorAbsY (combine op0 op1)⟩ 0x59 rfl rfl rfl rfl rfl rfl
theorem eorIndX (op0 : Byte) : Statement (.eorIndX op0) :=
  of_byte ⟨.indirectX, 6, .none, fun op0 _ => .eorIndX op0⟩ 0x41 rfl rfl rfl rfl rfl
theorem eorIndY (op0 : Byte) : Statement (.eorIndY op0) :=
  of_byte ⟨.indirectY, 5, .page, fun op0 _ => .eorIndY op0⟩ 0x51 rfl rfl rfl rfl rfl
theorem bitZp (op0 : Byte) : Statement (.bitZp op0) :=
  of_byte ⟨.zeroPage, 3, .none, fun op0 _ => .bitZp op0⟩ 0x24 rfl rfl rfl rfl rfl
theorem bitAbs (addr : Word) : Statement (.bitAbs addr) :=
  of_word .bitAbs addr ⟨.absolute, 4, .none, fun op0 op1 => .bitAbs (combine op0 op1)⟩ 0x2C rfl rfl rfl rfl rfl rfl
theorem adcImm (op0 : Byte) : Statement (.adcImm op0) :=
  of_byte ⟨.immediate, 2, .none, fun op0 _ => .adcImm op0⟩ 0x69 rfl rfl rfl rfl rfl
theorem adcZp (op0 : Byte) : Statement (.adcZp op0) :=
  of_byte ⟨.zeroPage, 3, .none, fun op0 _ => .adcZp op0⟩ 0x65 rfl rfl rfl rfl rfl
theorem adcZpX (op0 : Byte) : Statement (.adcZpX op0) :=
  of_byte ⟨.zeroPageX, 4, .none, fun op0 _ => .adcZpX op0⟩ 0x75 rfl rfl rfl rfl rfl
theorem adcAbs (addr : Word) : Statement (.adcAbs addr) :=
  of_word .adcAbs addr ⟨.absolute, 4, .none, fun op0 op1 => .adcAbs (combine op0 op1)⟩ 0x6D rfl rfl rfl rfl rfl rfl
theorem adcAbsX (addr : Word) : Statement (.adcAbsX addr) :=
  of_word .adcAbsX addr ⟨.absoluteX, 4, .page, fun op0 op1 => .adcAbsX (combine op0 op1)⟩ 0x7D rfl rfl rfl rfl rfl rfl
theorem adcAbsY (addr : Word) : Statement (.adcAbsY addr) :=
  of_word .adcAbsY addr ⟨.absoluteY, 4, .page, fun op0 op1 => .adcAbsY (combine op0 op1)⟩ 0x79 rfl rfl rfl rfl rfl rfl
theorem adcIndX (op0 : Byte) : Statement (.adcIndX op0) :=
  of_byte ⟨.indirectX, 6, .none, fun op0 _ => .adcIndX op0⟩ 0x61 rfl rfl rfl rfl rfl
theorem adcIndY (op0 : Byte) : Statement (.adcIndY op0) :=
  of_byte ⟨.indirectY, 5, .page, fun op0 _ => .adcIndY op0⟩ 0x71 rfl rfl rfl rfl rfl
theorem sbcImm (op0 : Byte) : Statement (.sbcImm op0) :=
  of_byte ⟨.immediate, 2, .none, fun op0 _ => .sbcImm op0⟩ 0xE9 rfl rfl rfl rfl rfl
theorem sbcZp (op0 : Byte) : Statement (.sbcZp op0) :=
  of_byte ⟨.zeroPage, 3, .none, fun op0 _ => .sbcZp op0⟩ 0xE5 rfl rfl rfl rfl rfl
theorem sbcZpX (op0 : Byte) : Statement (.sbcZpX op0) :=
  of_byte ⟨.zeroPageX, 4, .none, fun op0 _ => .sbcZpX op0⟩ 0xF5 rfl rfl rfl rfl rfl
theorem sbcAbs (addr : Word) : Statement (.sbcAbs addr) :=
  of_word .sbcAbs addr ⟨.absolute, 4, .none, fun op0 op1 => .sbcAbs (combine op0 op1)⟩ 0xED rfl rfl rfl rfl rfl rfl
theorem sbcAbsX (addr : Word) : Statement (.sbcAbsX addr) :=
  of_word .sbcAbsX addr ⟨.absoluteX, 4, .page, fun op0 op1 => .sbcAbsX (combine op0 op1)⟩ 0xFD rfl rfl rfl rfl rfl rfl
theorem sbcAbsY (addr : Word) : Statement (.sbcAbsY addr) :=
  of_word .sbcAbsY addr ⟨.absoluteY, 4, .page, fun op0 op1 => .sbcAbsY (combine op0 op1)⟩ 0xF9 rfl rfl rfl rfl rfl rfl
theorem sbcIndX (op0 : Byte) : Statement (.sbcIndX op0) :=
  of_byte ⟨.indirectX, 6, .none, fun op0 _ => .sbcIndX op0⟩ 0xE1 rfl rfl rfl rfl rfl
theorem sbcIndY (op0 : Byte) : Statement (.sbcIndY op0) :=
  of_byte ⟨.indirectY, 5, .page, fun op0 _ => .sbcIndY op0⟩ 0xF1 rfl rfl rfl rfl rfl
theorem cmpImm (op0 : Byte) : Statement (.cmpImm op0) :=
  of_byte ⟨.immediate, 2, .none, fun op0 _ => .cmpImm op0⟩ 0xC9 rfl rfl rfl rfl rfl
theorem cmpZp (op0 : Byte) : Statement (.cmpZp op0) :=
  of_byte ⟨.zeroPage, 3, .none, fun op0 _ => .cmpZp op0⟩ 0xC5 rfl rfl rfl rfl rfl
theorem cmpZpX (op0 : Byte) : Statement (.cmpZpX op0) :=
  of_byte ⟨.zeroPageX, 4, .none, fun op0 _ => .cmpZpX op0⟩ 0xD5 rfl rfl rfl rfl rfl
theorem cmpAbs (addr : Word) : Statement (.cmpAbs addr) :=
  of_word .cmpAbs addr ⟨.absolute, 4, .none, fun op0 op1 => .cmpAbs (combine op0 op1)⟩ 0xCD rfl rfl rfl rfl rfl rfl
theorem cmpAbsX (addr : Word) : Statement (.cmpAbsX addr) :=
  of_word .cmpAbsX addr ⟨.absoluteX, 4, .page, fun op0 op1 => .cmpAbsX (combine op0 op1)⟩ 0xDD rfl rfl rfl rfl rfl rfl
theorem cmpAbsY (addr : Word) : Statement (.cmpAbsY addr) :=
  of_word .cmpAbsY addr ⟨.absoluteY, 4, .page, fun op0 op1 => .cmpAbsY (combine op0 op1)⟩ 0xD9 rfl rfl rfl rfl rfl rfl
theorem cmpIndX (op0 : Byte) : Statement (.cmpIndX op0) :=
  of_byte ⟨.indirectX, 6, .none, fun op0 _ => .cmpIndX op0⟩ 0xC1 rfl rfl rfl rfl rfl
theorem cmpIndY (op0 : Byte) : Statement (.cmpIndY op0) :=
  of_byte ⟨.indirectY, 5, .page, fun op0 _ => .cmpIndY op0⟩ 0xD1 rfl rfl rfl rfl rfl
theorem cpxImm (op0 : Byte) : Statement (.cpxImm op0) :=
  of_byte ⟨.immediate, 2, .none, fun op0 _ => .cpxImm op0⟩ 0xE0 rfl rfl rfl rfl rfl
theorem cpxZp (op0 : Byte) : Statement (.cpxZp op0) :=
  of_byte ⟨.zeroPage, 3, .none, fun op0 _ => .cpxZp op0⟩ 0xE4 rfl rfl rfl rfl rfl
theorem cpxAbs (addr : Word) : Statement (.cpxAbs addr) :=
  of_word .cpxAbs addr ⟨.absolute, 4, .none, fun op0 op1 => .cpxAbs (combine op0 op1)⟩ 0xEC rfl rfl rfl rfl rfl rfl
theorem cpyImm (op0 : Byte) : Statement (.cpyImm op0) :=
  of_byte ⟨.immediate, 2, .none, fun op0 _ => .cpyImm op0⟩ 0xC0 rfl rfl rfl rfl rfl
theorem cpyZp (op0 : Byte) : Statement (.cpyZp op0) :=
  of_byte ⟨.zeroPage, 3, .none, fun op0 _ => .cpyZp op0⟩ 0xC4 rfl rfl rfl rfl rfl
theorem cpyAbs (addr : Word) : Statement (.cpyAbs addr) :=
  of_word .cpyAbs addr ⟨.absolute, 4, .none, fun op0 op1 => .cpyAbs (combine op0 op1)⟩ 0xCC rfl rfl rfl rfl rfl rfl
theorem aslA : Statement (.aslA) :=
  of_byte ⟨.accumulator, 2, .none, fun _ _ => .aslA⟩ 0x0A rfl rfl rfl rfl rfl
theorem aslZp (op0 : Byte) : Statement (.aslZp op0) :=
  of_byte ⟨.zeroPage, 5, .none, fun op0 _ => .aslZp op0⟩ 0x06 rfl rfl rfl rfl rfl
theorem aslZpX (op0 : Byte) : Statement (.aslZpX op0) :=
  of_byte ⟨.zeroPageX, 6, .none, fun op0 _ => .aslZpX op0⟩ 0x16 rfl rfl rfl rfl rfl
theorem aslAbs (addr : Word) : Statement (.aslAbs addr) :=
  of_word .aslAbs addr ⟨.absolute, 6, .none, fun op0 op1 => .aslAbs (combine op0 op1)⟩ 0x0E rfl rfl rfl rfl rfl rfl
theorem aslAbsX (addr : Word) : Statement (.aslAbsX addr) :=
  of_word .aslAbsX addr ⟨.absoluteX, 7, .none, fun op0 op1 => .aslAbsX (combine op0 op1)⟩ 0x1E rfl rfl rfl rfl rfl rfl
theorem lsrA : Statement (.lsrA) :=
  of_byte ⟨.accumulator, 2, .none, fun _ _ => .lsrA⟩ 0x4A rfl rfl rfl rfl rfl
theorem lsrZp (op0 : Byte) : Statement (.lsrZp op0) :=
  of_byte ⟨.zeroPage, 5, .none, fun op0 _ => .lsrZp op0⟩ 0x46 rfl rfl rfl rfl rfl
theorem lsrZpX (op0 : Byte) : Statement (.lsrZpX op0) :=
  of_byte ⟨.zeroPageX, 6, .none, fun op0 _ => .lsrZpX op0⟩ 0x56 rfl rfl rfl rfl rfl
theorem lsrAbs (addr : Word) : Statement (.lsrAbs addr) :=
  of_word .lsrAbs addr ⟨.absolute, 6, .none, fun op0 op1 => .lsrAbs (combine op0 op1)⟩ 0x4E rfl rfl rfl rfl rfl rfl
theorem lsrAbsX (addr : Word) : Statement (.lsrAbsX addr) :=
  of_word .lsrAbsX addr ⟨.absoluteX, 7, .none, fun op0 op1 => .lsrAbsX (combine op0 op1)⟩ 0x5E rfl rfl rfl rfl rfl rfl
theorem rolA : Statement (.rolA) :=
  of_byte ⟨.accumulator, 2, .none, fun _ _ => .rolA⟩ 0x2A rfl rfl rfl rfl rfl
theorem rolZp (op0 : Byte) : Statement (.rolZp op0) :=
  of_byte ⟨.zeroPage, 5, .none, fun op0 _ => .rolZp op0⟩ 0x26 rfl rfl rfl rfl rfl
theorem rolZpX (op0 : Byte) : Statement (.rolZpX op0) :=
  of_byte ⟨.zeroPageX, 6, .none, fun op0 _ => .rolZpX op0⟩ 0x36 rfl rfl rfl rfl rfl
theorem rolAbs (addr : Word) : Statement (.rolAbs addr) :=
  of_word .rolAbs addr ⟨.absolute, 6, .none, fun op0 op1 => .rolAbs (combine op0 op1)⟩ 0x2E rfl rfl rfl rfl rfl rfl
theorem rolAbsX (addr : Word) : Statement (.rolAbsX addr) :=
  of_word .rolAbsX addr ⟨.absoluteX, 7, .none, fun op0 op1 => .rolAbsX (combine op0 op1)⟩ 0x3E rfl rfl rfl rfl rfl rfl
theorem rorA : Statement (.rorA) :=
  of_byte ⟨.accumulator, 2, .none, fun _ _ => .rorA⟩ 0x6A rfl rfl rfl rfl rfl
theorem rorZp (op0 : Byte) : Statement (.rorZp op0) :=
  of_byte ⟨.zeroPage, 5, .none, fun op0 _ => .rorZp op0⟩ 0x66 rfl rfl rfl rfl rfl
theorem rorZpX (op0 : Byte) : Statement (.rorZpX op0) :=
  of_byte ⟨.zeroPageX, 6, .none, fun op0 _ => .rorZpX op0⟩ 0x76 rfl rfl rfl rfl rfl
theorem rorAbs (addr : Word) : Statement (.rorAbs addr) :=
  of_word .rorAbs addr ⟨.absolute, 6, .none, fun op0 op1 => .rorAbs (combine op0 op1)⟩ 0x6E rfl rfl rfl rfl rfl rfl
theorem rorAbsX (addr : Word) : Statement (.rorAbsX addr) :=
  of_word .rorAbsX addr ⟨.absoluteX, 7, .none, fun op0 op1 => .rorAbsX (combine op0 op1)⟩ 0x7E rfl rfl rfl rfl rfl rfl
theorem incZp (op0 : Byte) : Statement (.incZp op0) :=
  of_byte ⟨.zeroPage, 5, .none, fun op0 _ => .incZp op0⟩ 0xE6 rfl rfl rfl rfl rfl
theorem incZpX (op0 : Byte) : Statement (.incZpX op0) :=
  of_byte ⟨.zeroPageX, 6, .none, fun op0 _ => .incZpX op0⟩ 0xF6 rfl rfl rfl rfl rfl
theorem incAbs (addr : Word) : Statement (.incAbs addr) :=
  of_word .incAbs addr ⟨.absolute, 6, .none, fun op0 op1 => .incAbs (combine op0 op1)⟩ 0xEE rfl rfl rfl rfl rfl rfl
theorem incAbsX (addr : Word) : Statement (.incAbsX addr) :=
  of_word .incAbsX addr ⟨.absoluteX, 7, .none, fun op0 op1 => .incAbsX (combine op0 op1)⟩ 0xFE rfl rfl rfl rfl rfl rfl
theorem decZp (op0 : Byte) : Statement (.decZp op0) :=
  of_byte ⟨.zeroPage, 5, .none, fun op0 _ => .decZp op0⟩ 0xC6 rfl rfl rfl rfl rfl
theorem decZpX (op0 : Byte) : Statement (.decZpX op0) :=
  of_byte ⟨.zeroPageX, 6, .none, fun op0 _ => .decZpX op0⟩ 0xD6 rfl rfl rfl rfl rfl
theorem decAbs (addr : Word) : Statement (.decAbs addr) :=
  of_word .decAbs addr ⟨.absolute, 6, .none, fun op0 op1 => .decAbs (combine op0 op1)⟩ 0xCE rfl rfl rfl rfl rfl rfl
theorem decAbsX (addr : Word) : Statement (.decAbsX addr) :=
  of_word .decAbsX addr ⟨.absoluteX, 7, .none, fun op0 op1 => .decAbsX (combine op0 op1)⟩ 0xDE rfl rfl rfl rfl rfl rfl
theorem inx : Statement (.inx) :=
  of_byte ⟨.implied, 2, .none, fun _ _ => .inx⟩ 0xE8 rfl rfl rfl rfl rfl
theorem dex : Statement (.dex) :=
  of_byte ⟨.implied, 2, .none, fun _ _ => .dex⟩ 0xCA rfl rfl rfl rfl rfl
theorem iny : Statement (.iny) :=
  of_byte ⟨.implied, 2, .none, fun _ _ => .iny⟩ 0xC8 rfl rfl rfl rfl rfl
theorem dey : Statement (.dey) :=
  of_byte ⟨.implied, 2, .none, fun _ _ => .dey⟩ 0x88 rfl rfl rfl rfl rfl
theorem bpl (off : Byte) : Statement (.bpl off) :=
  of_byte ⟨.relative, 2, .branch .pl, fun op0 _ => .bpl op0⟩ 0x10 rfl rfl rfl rfl rfl
theorem bmi (off : Byte) : Statement (.bmi off) :=
  of_byte ⟨.relative, 2, .branch .mi, fun op0 _ => .bmi op0⟩ 0x30 rfl rfl rfl rfl rfl
theorem bvc (off : Byte) : Statement (.bvc off) :=
  of_byte ⟨.relative, 2, .branch .vc, fun op0 _ => .bvc op0⟩ 0x50 rfl rfl rfl rfl rfl
theorem bvs (off : Byte) : Statement (.bvs off) :=
  of_byte ⟨.relative, 2, .branch .vs, fun op0 _ => .bvs op0⟩ 0x70 rfl rfl rfl rfl rfl
theorem bcc (off : Byte) : Statement (.bcc off) :=
  of_byte ⟨.relative, 2, .branch .cc, fun op0 _ => .bcc op0⟩ 0x90 rfl rfl rfl rfl rfl
theorem bcs (off : Byte) : Statement (.bcs off) :=
  of_byte ⟨.relative, 2, .branch .cs, fun op0 _ => .bcs op0⟩ 0xB0 rfl rfl rfl rfl rfl
theorem bne (off : Byte) : Statement (.bne off) :=
  of_byte ⟨.relative, 2, .branch .ne, fun op0 _ => .bne op0⟩ 0xD0 rfl rfl rfl rfl rfl
theorem beq (off : Byte) : Statement (.beq off) :=
  of_byte ⟨.relative, 2, .branch .eq, fun op0 _ => .beq op0⟩ 0xF0 rfl rfl rfl rfl rfl
theorem jmpAbs (addr : Word) : Statement (.jmpAbs addr) :=
  of_word .jmpAbs addr ⟨.absolute, 3, .none, fun op0 op1 => .jmpAbs (combine op0 op1)⟩ 0x4C rfl rfl rfl rfl rfl rfl
theorem jmpInd (addr : Word) : Statement (.jmpInd addr) :=
  of_word .jmpInd addr ⟨.indirect, 5, .none, fun op0 op1 => .jmpInd (combine op0 op1)⟩ 0x6C rfl rfl rfl rfl rfl rfl
theorem jsr (addr : Word) : Statement (.jsr addr) :=
  of_word .jsr addr ⟨.absolute, 6, .none, fun op0 op1 => .jsr (combine op0 op1)⟩ 0x20 rfl rfl rfl rfl rfl rfl
theorem rts : Statement (.rts) :=
  of_byte ⟨.implied, 6, .none, fun _ _ => .rts⟩ 0x60 rfl rfl rfl rfl rfl
theorem brk : Statement (.brk) :=
  of_byte ⟨.implied, 7, .none, fun _ _ => .brk⟩ 0x00 rfl rfl rfl rfl rfl
theorem rti : Statement (.rti) :=
  of_byte ⟨.implied, 6, .none, fun _ _ => .rti⟩ 0x40 rfl rfl rfl rfl rfl
theorem clc : Statement (.clc) :=
  of_byte ⟨.implied, 2, .none, fun _ _ => .clc⟩ 0x18 rfl rfl rfl rfl rfl
theorem sec : Statement (.sec) :=
  of_byte ⟨.implied, 2, .none, fun _ _ => .sec⟩ 0x38 rfl rfl rfl rfl rfl
theorem cli : Statement (.cli) :=
  of_byte ⟨.implied, 2, .none, fun _ _ => .cli⟩ 0x58 rfl rfl rfl rfl rfl
theorem sei : Statement (.sei) :=
  of_byte ⟨.implied, 2, .none, fun _ _ => .sei⟩ 0x78 rfl rfl rfl rfl rfl
theorem clv : Statement (.clv) :=
  of_byte ⟨.implied, 2, .none, fun _ _ => .clv⟩ 0xB8 rfl rfl rfl rfl rfl
theorem cld : Statement (.cld) :=
  of_byte ⟨.implied, 2, .none, fun _ _ => .cld⟩ 0xD8 rfl rfl rfl rfl rfl
theorem sed : Statement (.sed) :=
  of_byte ⟨.implied, 2, .none, fun _ _ => .sed⟩ 0xF8 rfl rfl rfl rfl rfl
theorem nop : Statement (.nop) :=
  of_byte ⟨.implied, 2, .none, fun _ _ => .nop⟩ 0xEA rfl rfl rfl rfl rfl

end Sys2Proof.Laws.Slots
end

