-- ==== Sys2Proof/Laws/Tick.lean ====
section
/-! SUPPORT. What one step can do, said once: which action it applies, and the cases of a tick that answers a next
state. -/

namespace Sys2Proof.Machine

theorem step_tick {s : State} (h : s.driver = []) : step s = tick s := by
  simp [step, driverStep, h, applyAction]

theorem step_action {s : State} {a : Action} {rest : List Action} (h : s.driver = a :: rest) :
    step s = applyAction a { s with driver := rest } := by
  simp [step, driverStep, h]

theorem tick_halted {s : State} (hr : s.resetApplied = true) (hh : s.halted = true) : tick s = .next s := by
  simp [tick, hr, hh]

theorem tick_boundary {s : State} (h : s.Running) (hf : s.dec.fetchNext = true) : tick s = .next s.boundaryTick := by
  simp [tick, h.1, h.2, hf]

theorem tick_entry {s : State} {kind : IntKind} (h : s.InEntry kind) : tick s = .next (s.entryTick kind) := by
  simp [tick, h.1.1, h.1.2, h.2.1, h.2.2]

@[simp] theorem fetchOperand_cycleIndex (size : Nat) (s : State) :
    (s.fetchOperand size).dec.cycleIndex = s.dec.cycleIndex := by
  unfold State.fetchOperand
  split
  · simp only [DecodeState.setOperand]
    split <;> rfl
  · rfl

/-- Every instruction tick counts one cycle. -/
@[simp] theorem spendCycle_cycleIndex (d : Descriptor) (s : State) :
    (s.spendCycle d).dec.cycleIndex = s.dec.cycleIndex + 1 := by
  unfold State.spendCycle State.latchExtra
  split <;> simp [State.countCycle]

theorem tick_inFlight {s : State} {d : Descriptor} (h : s.InFlight d) :
    tick s =
      if (s.spendCycle d).dec.cycleIndex = d.baseCycles + (s.spendCycle d).dec.extra
      then retire (Descriptor.inFlight d (s.spendCycle d)) (s.spendCycle d) else .next (s.spendCycle d) := by
  simp only [tick, h.1.1, h.1.2, h.2.1, h.2.2.1, instructionTick, h.2.2.2, if_true, Bool.false_eq_true, if_false]

/-- The tick that does not complete the count. -/
theorem tick_inFlight_wait {s : State} {d : Descriptor} (h : s.InFlight d) (hn : ¬ s.retiresNow d) :
    tick s = .next (s.spendCycle d) := by
  rw [tick_inFlight h, if_neg]
  rw [spendCycle_cycleIndex]
  exact hn

/-- The tick that does. -/
theorem tick_inFlight_retire {s : State} {d : Descriptor} (h : s.InFlight d) (hr : s.retiresNow d) :
    tick s = retire (Descriptor.inFlight d (s.spendCycle d)) (s.spendCycle d) := by
  rw [tick_inFlight h, if_pos]
  rw [spendCycle_cycleIndex]
  exact hr

/-- A tick that answers a next state: halted, at a boundary, in an interrupt entry, or in an instruction that waits or
retires. -/
theorem tick_cases {s t : State} (h : tick s = .next t) :
    (s.resetApplied = true ∧ s.halted = true ∧ t = s) ∨
    (s.Running ∧ s.dec.fetchNext = true ∧ t = s.boundaryTick) ∨
    (∃ kind, s.InEntry kind ∧ t = s.entryTick kind) ∨
    (∃ d, s.InFlight d ∧ ¬ s.retiresNow d ∧ t = s.spendCycle d) ∨
    (∃ d, s.InFlight d ∧ s.retiresNow d ∧ retire (Descriptor.inFlight d (s.spendCycle d)) (s.spendCycle d) = .next t) := by
  cases hr : s.resetApplied with
  | false => simp [tick, hr] at h
  | true =>
    cases hh : s.halted with
    | true => exact .inl ⟨rfl, rfl, by simpa [tick, hr, hh] using h.symm⟩
    | false =>
      cases hf : s.dec.fetchNext with
      | true => exact .inr (.inl ⟨⟨hr, hh⟩, rfl, by simpa [tick, hr, hh, hf] using h.symm⟩)
      | false =>
        cases he : s.dec.entryKind with
        | some kind => exact .inr (.inr (.inl ⟨kind, ⟨⟨hr, hh⟩, hf, he⟩, by simpa [tick, hr, hh, hf, he] using h.symm⟩))
        | none =>
          cases hd : descriptor s.dec.opcodeByte with
          | none => simp [tick, hr, hh, hf, he, instructionTick, hd] at h
          | some d =>
            have hi : s.InFlight d := ⟨⟨hr, hh⟩, hf, he, hd⟩
            by_cases hn : s.retiresNow d
            · exact .inr (.inr (.inr (.inr ⟨d, hi, hn, (tick_inFlight_retire hi hn).symm.trans h⟩)))
            · rw [tick_inFlight_wait hi hn] at h
              injection h with h
              exact .inr (.inr (.inr (.inl ⟨d, hi, hn, h.symm⟩)))

/-- A retirement that answers a next state runs the execute action, and clears the decode state unless it halted. -/
theorem retire_cases {i : Instr} {s t : State} (h : retire i s = .next t) :
    ∃ u, exec i s = .next u ∧ ((u.halted = true ∧ t = u) ∨ (u.halted = false ∧ t = u.clearDecode)) := by
  unfold retire at h
  split at h
  · next u hu =>
    refine ⟨u, hu, ?_⟩
    injection h with h
    cases hh : u.halted with
    | true => exact .inl ⟨rfl, by simpa [hh] using h.symm⟩
    | false => exact .inr ⟨rfl, by simpa [hh] using h.symm⟩
  · cases h
  · cases h

/-- A tick of an instruction in flight, short of its retirement, writes PC and the decode state only (R115 to R117). -/
theorem spendCycle_frame (d : Descriptor) (s : State) :
    s.spendCycle d = { s with pc := (s.spendCycle d).pc, dec := (s.spendCycle d).dec } := by
  unfold State.spendCycle State.latchExtra State.fetchOperand
  split <;> split <;> rfl

/-- The opcode fetch as one record (R114, R271). -/
theorem fetchOpcode_eq (s : State) :
    s.fetchOpcode = { s with
      pc := s.pc + 1
      dec := { s.dec with opcodeByte := s.mem.read s.pc, cycleIndex := 1, fetchNext := false }
      halted := s.halted || (descriptor (s.mem.read s.pc)).isNone
      fault :=
        if (descriptor (s.mem.read s.pc)).isNone = true then some (.invalidOpcode (s.mem.read s.pc) s.pc)
        else s.fault } := by
  unfold State.fetchOpcode
  cases h : descriptor (s.mem.read s.pc) <;> simp [h, State.raise]

/-- What a tick at a boundary may write (R113, R114). -/
theorem boundaryTick_frame (s : State) :
    s.boundaryTick = { s with
      pc := s.boundaryTick.pc
      dec := s.boundaryTick.dec
      nmiPending := s.boundaryTick.nmiPending
      irqPending := s.boundaryTick.irqPending
      halted := s.boundaryTick.halted
      fault := s.boundaryTick.fault } := by
  unfold State.boundaryTick
  simp only [fetchOpcode_eq, State.acceptInterrupt]
  split
  · rfl
  · split
    · split <;> rfl
    · rfl

@[simp] theorem spendCycle_resetApplied (d : Descriptor) (s : State) :
    (s.spendCycle d).resetApplied = s.resetApplied := by rw [spendCycle_frame]

@[simp] theorem boundaryTick_resetApplied (s : State) :
    s.boundaryTick.resetApplied = s.resetApplied := by rw [boundaryTick_frame]

@[simp] theorem spendCycle_entryKind (d : Descriptor) (s : State) :
    (s.spendCycle d).dec.entryKind = s.dec.entryKind := by
  unfold State.spendCycle State.latchExtra State.fetchOperand
  split <;> split <;> simp [State.countCycle, DecodeState.setOperand] <;> split <;> rfl

/-- The first ticks of an interrupt entry only count (R119). -/
theorem entryTick_wait {s : State} (kind : IntKind) (h : s.dec.cycleIndex + 1 ≠ 7) :
    s.entryTick kind = s.countCycle := by
  unfold State.entryTick
  exact if_neg h

/-- The last one commits the whole entry (R119, R285). -/
theorem entryTick_commit {s : State} (kind : IntKind) (h : s.dec.cycleIndex + 1 = 7) :
    s.entryTick kind = { s with
      mem := s.entryMemory s.p.stackedByInterrupt
      sp := s.sp - 1 - 1 - 1
      p := { s.p with i := true }
      pc := (s.entryMemory s.p.stackedByInterrupt).readWord kind.vector
      dec := DecodeState.boundary } := by
  unfold State.entryTick
  simp only [show s.countCycle.dec.cycleIndex = intEntryCycles from h, if_true, State.enterInterrupt,
    State.enterHandler_eq, State.clearDecode]
  rfl

@[simp] theorem applyAction_tick (s : State) : applyAction .tick s = tick s := rfl

@[simp] theorem applyAction_reset (s : State) : applyAction .reset s = .next s.applyReset := rfl

@[simp] theorem applyAction_driverWrite (addr : Word) (v : Byte) (s : State) :
    applyAction (.driverWrite addr v) s = .next (s.store addr v) := rfl

theorem applyAction_requestInterrupt {s : State} (kind : IntKind) (h : s.resetApplied = true) :
    applyAction (.requestInterrupt kind) s = .next (s.requestInterrupt kind) := by
  simp [applyAction, h]

/-- A run of one step more, put together. -/
theorem core_run_next {s t : State} (n : Nat) (h : step s = .next t) :
    Host.Core.run Sys2Proof.core (n + 1) s = Host.Core.run Sys2Proof.core n t := by
  have : Sys2Proof.core.step s = .next t := h
  simp only [Host.Core.run, this]

/-- A run of one step more, taken apart. -/
theorem core_run_succ {s t : State} (n : Nat) (h : Host.Core.run Sys2Proof.core (n + 1) s = .next t) :
    ∃ u, step s = .next u ∧ Host.Core.run Sys2Proof.core n u = .next t := by
  cases hs : step s with
  | next u => exact ⟨u, rfl, (core_run_next n hs).symm.trans h⟩
  | fault f =>
    have : Sys2Proof.core.step s = .fault f := hs
    simp only [Host.Core.run, this] at h
    cases h
  | refused f =>
    have : Sys2Proof.core.step s = .refused f := hs
    simp only [Host.Core.run, this] at h
    cases h

/-- Runs joined. -/
theorem core_run_add (m n : Nat) {s t : State} (h : Host.Core.run Sys2Proof.core m s = .next t) :
    Host.Core.run Sys2Proof.core (m + n) s = Host.Core.run Sys2Proof.core n t := by
  induction m generalizing s with
  | zero =>
    simp only [Host.Core.run] at h
    injection h with h
    subst h
    rw [Nat.zero_add]
  | succ m ih =>
    obtain ⟨u, hu, hr⟩ := core_run_succ m h
    rw [show m + 1 + n = (m + n) + 1 by omega, core_run_next _ hu, ih hr]

end Sys2Proof.Machine
end

