-- ==== Sys2Proof/Tests/Slice0.lean ====
section
/-! SUPPORT. The model's own tests: the ill-formed byte strings, the decoding of words written out from the spec's
encodings, single instructions and actions against spec/95_test_vectors.md, and for each statement of
Sys2Proof/Certificates/Slice0/Obligations.lean that has hypotheses a theorem that something concrete meets them. -/

namespace Sys2Proof.Tests

open Sys2Proof Sys2Proof.Machine

/-- WellFormed refuses no bytes, an invalid opcode, a missing operand and a byte too many (spec/30_encoding.md R85,
R88, R92). -/
theorem test_ill_formed :
    wellFormed [] = false ∧ wellFormed [0x02] = false ∧ wellFormed [0xA9] = false ∧
    wellFormed [0x4C, 0x00] = false ∧ wellFormed [0xEA, 0x00] = false := by decide

theorem test_well_formed :
    wellFormed [0xEA] = true ∧ wellFormed [0xA9, 0xFF] = true ∧ wellFormed [0x4C, 0x00, 0x02] = true := by decide

/-- The opcode bytes of spec/41_load_store.md R150 to R155, bit by bit. -/
theorem test_decode_loadStore :
    decode [0b10101001, 0x56] = .ok (.ldaImm 0x56, []) ∧ decode [0b10100101, 0x56] = .ok (.ldaZp 0x56, []) ∧
    decode [0b10110101, 0x56] = .ok (.ldaZpX 0x56, []) ∧
    decode [0b10101101, 0x34, 0x12] = .ok (.ldaAbs 0x1234, []) ∧
    decode [0b10111101, 0x34, 0x12] = .ok (.ldaAbsX 0x1234, []) ∧
    decode [0b10111001, 0x34, 0x12] = .ok (.ldaAbsY 0x1234, []) ∧
    decode [0b10100001, 0x56] = .ok (.ldaIndX 0x56, []) ∧ decode [0b10110001, 0x56] = .ok (.ldaIndY 0x56, []) ∧
    decode [0b10100010, 0x56] = .ok (.ldxImm 0x56, []) ∧ decode [0b10100110, 0x56] = .ok (.ldxZp 0x56, []) ∧
    decode [0b10110110, 0x56] = .ok (.ldxZpY 0x56, []) ∧
    decode [0b10101110, 0x34, 0x12] = .ok (.ldxAbs 0x1234, []) ∧
    decode [0b10111110, 0x34, 0x12] = .ok (.ldxAbsY 0x1234, []) ∧
    decode [0b10100000, 0x56] = .ok (.ldyImm 0x56, []) ∧ decode [0b10100100, 0x56] = .ok (.ldyZp 0x56, []) ∧
    decode [0b10110100, 0x56] = .ok (.ldyZpX 0x56, []) ∧
    decode [0b10101100, 0x34, 0x12] = .ok (.ldyAbs 0x1234, []) ∧
    decode [0b10111100, 0x34, 0x12] = .ok (.ldyAbsX 0x1234, []) ∧
    decode [0b10000101, 0x56] = .ok (.staZp 0x56, []) ∧ decode [0b10010101, 0x56] = .ok (.staZpX 0x56, []) ∧
    decode [0b10001101, 0x34, 0x12] = .ok (.staAbs 0x1234, []) ∧
    decode [0b10011101, 0x34, 0x12] = .ok (.staAbsX 0x1234, []) ∧
    decode [0b10011001, 0x34, 0x12] = .ok (.staAbsY 0x1234, []) ∧
    decode [0b10000001, 0x56] = .ok (.staIndX 0x56, []) ∧ decode [0b10010001, 0x56] = .ok (.staIndY 0x56, []) ∧
    decode [0b10000110, 0x56] = .ok (.stxZp 0x56, []) ∧ decode [0b10010110, 0x56] = .ok (.stxZpY 0x56, []) ∧
    decode [0b10001110, 0x34, 0x12] = .ok (.stxAbs 0x1234, []) ∧
    decode [0b10000100, 0x56] = .ok (.styZp 0x56, []) ∧ decode [0b10010100, 0x56] = .ok (.styZpX 0x56, []) ∧
    decode [0b10001100, 0x34, 0x12] = .ok (.styAbs 0x1234, []) :=
  ⟨rfl, rfl, rfl, rfl, rfl, rfl, rfl, rfl, rfl, rfl, rfl, rfl, rfl, rfl, rfl, rfl, rfl, rfl, rfl, rfl, rfl,
   rfl, rfl, rfl, rfl, rfl, rfl, rfl, rfl, rfl, rfl⟩

/-- The opcode bytes of spec/42_transfer_stack.md R160 to R169, bit by bit. -/
theorem test_decode_transferStack :
    decode [0b10101010] = .ok (.tax, []) ∧ decode [0b10101000] = .ok (.tay, []) ∧
    decode [0b10001010] = .ok (.txa, []) ∧ decode [0b10011000] = .ok (.tya, []) ∧
    decode [0b10111010] = .ok (.tsx, []) ∧ decode [0b10011010] = .ok (.txs, []) ∧
    decode [0b01001000] = .ok (.pha, []) ∧ decode [0b00001000] = .ok (.php, []) ∧
    decode [0b01101000] = .ok (.pla, []) ∧ decode [0b00101000] = .ok (.plp, []) :=
  ⟨rfl, rfl, rfl, rfl, rfl, rfl, rfl, rfl, rfl, rfl⟩

/-- The opcode bytes of spec/43_logic_arith_compare.md R180 to R183, bit by bit. -/
theorem test_decode_logic :
    decode [0b00101001, 0x56] = .ok (.andImm 0x56, []) ∧ decode [0b00100101, 0x56] = .ok (.andZp 0x56, []) ∧
    decode [0b00110101, 0x56] = .ok (.andZpX 0x56, []) ∧
    decode [0b00101101, 0x34, 0x12] = .ok (.andAbs 0x1234, []) ∧
    decode [0b00111101, 0x34, 0x12] = .ok (.andAbsX 0x1234, []) ∧
    decode [0b00111001, 0x34, 0x12] = .ok (.andAbsY 0x1234, []) ∧
    decode [0b00100001, 0x56] = .ok (.andIndX 0x56, []) ∧ decode [0b00110001, 0x56] = .ok (.andIndY 0x56, []) ∧
    decode [0b00001001, 0x56] = .ok (.oraImm 0x56, []) ∧ decode [0b00000101, 0x56] = .ok (.oraZp 0x56, []) ∧
    decode [0b00010101, 0x56] = .ok (.oraZpX 0x56, []) ∧
    decode [0b00001101, 0x34, 0x12] = .ok (.oraAbs 0x1234, []) ∧
    decode [0b00011101, 0x34, 0x12] = .ok (.oraAbsX 0x1234, []) ∧
    decode [0b00011001, 0x34, 0x12] = .ok (.oraAbsY 0x1234, []) ∧
    decode [0b00000001, 0x56] = .ok (.oraIndX 0x56, []) ∧ decode [0b00010001, 0x56] = .ok (.oraIndY 0x56, []) ∧
    decode [0b01001001, 0x56] = .ok (.eorImm 0x56, []) ∧ decode [0b01000101, 0x56] = .ok (.eorZp 0x56, []) ∧
    decode [0b01010101, 0x56] = .ok (.eorZpX 0x56, []) ∧
    decode [0b01001101, 0x34, 0x12] = .ok (.eorAbs 0x1234, []) ∧
    decode [0b01011101, 0x34, 0x12] = .ok (.eorAbsX 0x1234, []) ∧
    decode [0b01011001, 0x34, 0x12] = .ok (.eorAbsY 0x1234, []) ∧
    decode [0b01000001, 0x56] = .ok (.eorIndX 0x56, []) ∧ decode [0b01010001, 0x56] = .ok (.eorIndY 0x56, []) ∧
    decode [0b00100100, 0x56] = .ok (.bitZp 0x56, []) ∧
    decode [0b00101100, 0x34, 0x12] = .ok (.bitAbs 0x1234, []) :=
  ⟨rfl, rfl, rfl, rfl, rfl, rfl, rfl, rfl, rfl, rfl, rfl, rfl, rfl, rfl, rfl, rfl, rfl, rfl, rfl, rfl, rfl,
   rfl, rfl, rfl, rfl, rfl⟩

/-- The opcode bytes of spec/43_logic_arith_compare.md R184 to R188, bit by bit. -/
theorem test_decode_arith :
    decode [0b01101001, 0x56] = .ok (.adcImm 0x56, []) ∧ decode [0b01100101, 0x56] = .ok (.adcZp 0x56, []) ∧
    decode [0b01110101, 0x56] = .ok (.adcZpX 0x56, []) ∧
    decode [0b01101101, 0x34, 0x12] = .ok (.adcAbs 0x1234, []) ∧
    decode [0b01111101, 0x34, 0x12] = .ok (.adcAbsX 0x1234, []) ∧
    decode [0b01111001, 0x34, 0x12] = .ok (.adcAbsY 0x1234, []) ∧
    decode [0b01100001, 0x56] = .ok (.adcIndX 0x56, []) ∧ decode [0b01110001, 0x56] = .ok (.adcIndY 0x56, []) ∧
    decode [0b11101001, 0x56] = .ok (.sbcImm 0x56, []) ∧ decode [0b11100101, 0x56] = .ok (.sbcZp 0x56, []) ∧
    decode [0b11110101, 0x56] = .ok (.sbcZpX 0x56, []) ∧
    decode [0b11101101, 0x34, 0x12] = .ok (.sbcAbs 0x1234, []) ∧
    decode [0b11111101, 0x34, 0x12] = .ok (.sbcAbsX 0x1234, []) ∧
    decode [0b11111001, 0x34, 0x12] = .ok (.sbcAbsY 0x1234, []) ∧
    decode [0b11100001, 0x56] = .ok (.sbcIndX 0x56, []) ∧ decode [0b11110001, 0x56] = .ok (.sbcIndY 0x56, []) ∧
    decode [0b11001001, 0x56] = .ok (.cmpImm 0x56, []) ∧ decode [0b11000101, 0x56] = .ok (.cmpZp 0x56, []) ∧
    decode [0b11010101, 0x56] = .ok (.cmpZpX 0x56, []) ∧
    decode [0b11001101, 0x34, 0x12] = .ok (.cmpAbs 0x1234, []) ∧
    decode [0b11011101, 0x34, 0x12] = .ok (.cmpAbsX 0x1234, []) ∧
    decode [0b11011001, 0x34, 0x12] = .ok (.cmpAbsY 0x1234, []) ∧
    decode [0b11000001, 0x56] = .ok (.cmpIndX 0x56, []) ∧ decode [0b11010001, 0x56] = .ok (.cmpIndY 0x56, []) ∧
    decode [0b11100000, 0x56] = .ok (.cpxImm 0x56, []) ∧ decode [0b11100100, 0x56] = .ok (.cpxZp 0x56, []) ∧
    decode [0b11101100, 0x34, 0x12] = .ok (.cpxAbs 0x1234, []) ∧
    decode [0b11000000, 0x56] = .ok (.cpyImm 0x56, []) ∧ decode [0b11000100, 0x56] = .ok (.cpyZp 0x56, []) ∧
    decode [0b11001100, 0x34, 0x12] = .ok (.cpyAbs 0x1234, []) :=
  ⟨rfl, rfl, rfl, rfl, rfl, rfl, rfl, rfl, rfl, rfl, rfl, rfl, rfl, rfl, rfl, rfl, rfl, rfl, rfl, rfl, rfl,
   rfl, rfl, rfl, rfl, rfl, rfl, rfl, rfl, rfl⟩

/-- The opcode bytes of spec/44_shift_incdec.md R200 to R203, bit by bit. -/
theorem test_decode_shift :
    decode [0b00001010] = .ok (.aslA, []) ∧ decode [0b00000110, 0x56] = .ok (.aslZp 0x56, []) ∧
    decode [0b00010110, 0x56] = .ok (.aslZpX 0x56, []) ∧
    decode [0b00001110, 0x34, 0x12] = .ok (.aslAbs 0x1234, []) ∧
    decode [0b00011110, 0x34, 0x12] = .ok (.aslAbsX 0x1234, []) ∧ decode [0b01001010] = .ok (.lsrA, []) ∧
    decode [0b01000110, 0x56] = .ok (.lsrZp 0x56, []) ∧ decode [0b01010110, 0x56] = .ok (.lsrZpX 0x56, []) ∧
    decode [0b01001110, 0x34, 0x12] = .ok (.lsrAbs 0x1234, []) ∧
    decode [0b01011110, 0x34, 0x12] = .ok (.lsrAbsX 0x1234, []) ∧ decode [0b00101010] = .ok (.rolA, []) ∧
    decode [0b00100110, 0x56] = .ok (.rolZp 0x56, []) ∧ decode [0b00110110, 0x56] = .ok (.rolZpX 0x56, []) ∧
    decode [0b00101110, 0x34, 0x12] = .ok (.rolAbs 0x1234, []) ∧
    decode [0b00111110, 0x34, 0x12] = .ok (.rolAbsX 0x1234, []) ∧ decode [0b01101010] = .ok (.rorA, []) ∧
    decode [0b01100110, 0x56] = .ok (.rorZp 0x56, []) ∧ decode [0b01110110, 0x56] = .ok (.rorZpX 0x56, []) ∧
    decode [0b01101110, 0x34, 0x12] = .ok (.rorAbs 0x1234, []) ∧
    decode [0b01111110, 0x34, 0x12] = .ok (.rorAbsX 0x1234, []) :=
  ⟨rfl, rfl, rfl, rfl, rfl, rfl, rfl, rfl, rfl, rfl, rfl, rfl, rfl, rfl, rfl, rfl, rfl, rfl, rfl, rfl⟩

/-- The opcode bytes of spec/44_shift_incdec.md R204 to R209, bit by bit. -/
theorem test_decode_incDec :
    decode [0b11100110, 0x56] = .ok (.incZp 0x56, []) ∧ decode [0b11110110, 0x56] = .ok (.incZpX 0x56, []) ∧
    decode [0b11101110, 0x34, 0x12] = .ok (.incAbs 0x1234, []) ∧
    decode [0b11111110, 0x34, 0x12] = .ok (.incAbsX 0x1234, []) ∧
    decode [0b11000110, 0x56] = .ok (.decZp 0x56, []) ∧ decode [0b11010110, 0x56] = .ok (.decZpX 0x56, []) ∧
    decode [0b11001110, 0x34, 0x12] = .ok (.decAbs 0x1234, []) ∧
    decode [0b11011110, 0x34, 0x12] = .ok (.decAbsX 0x1234, []) ∧ decode [0b11101000] = .ok (.inx, []) ∧
    decode [0b11001010] = .ok (.dex, []) ∧ decode [0b11001000] = .ok (.iny, []) ∧
    decode [0b10001000] = .ok (.dey, []) :=
  ⟨rfl, rfl, rfl, rfl, rfl, rfl, rfl, rfl, rfl, rfl, rfl, rfl⟩

/-- The opcode bytes of spec/45_control.md R220 to R228, bit by bit. -/
theorem test_decode_branch :
    decode [0b00010000, 0x56] = .ok (.bpl 0x56, []) ∧ decode [0b00110000, 0x56] = .ok (.bmi 0x56, []) ∧
    decode [0b01010000, 0x56] = .ok (.bvc 0x56, []) ∧ decode [0b01110000, 0x56] = .ok (.bvs 0x56, []) ∧
    decode [0b10010000, 0x56] = .ok (.bcc 0x56, []) ∧ decode [0b10110000, 0x56] = .ok (.bcs 0x56, []) ∧
    decode [0b11010000, 0x56] = .ok (.bne 0x56, []) ∧ decode [0b11110000, 0x56] = .ok (.beq 0x56, []) :=
  ⟨rfl, rfl, rfl, rfl, rfl, rfl, rfl, rfl⟩

/-- The opcode bytes of spec/45_control.md R231 to R237, bit by bit. -/
theorem test_decode_control :
    decode [0b01001100, 0x34, 0x12] = .ok (.jmpAbs 0x1234, []) ∧
    decode [0b01101100, 0x34, 0x12] = .ok (.jmpInd 0x1234, []) ∧
    decode [0b00100000, 0x34, 0x12] = .ok (.jsr 0x1234, []) ∧ decode [0b01100000] = .ok (.rts, []) ∧
    decode [0b00000000] = .ok (.brk, []) ∧ decode [0b01000000] = .ok (.rti, []) :=
  ⟨rfl, rfl, rfl, rfl, rfl, rfl⟩

/-- The opcode bytes of spec/46_flags_nop.md R250 to R257, bit by bit. -/
theorem test_decode_flagOps :
    decode [0b00011000] = .ok (.clc, []) ∧ decode [0b00111000] = .ok (.sec, []) ∧
    decode [0b01011000] = .ok (.cli, []) ∧ decode [0b01111000] = .ok (.sei, []) ∧
    decode [0b10111000] = .ok (.clv, []) ∧ decode [0b11011000] = .ok (.cld, []) ∧
    decode [0b11111000] = .ok (.sed, []) ∧ decode [0b11101010] = .ok (.nop, []) :=
  ⟨rfl, rfl, rfl, rfl, rfl, rfl, rfl, rfl⟩

/-- Bytes after the instruction are left over, and what is no instruction is refused by name (R92, R93). -/
theorem test_decode_rest :
    decode [0b11101010, 0b10101001] = .ok (.nop, [0xA9]) ∧ decode [] = .error .noBytes ∧
    decode [0x80, 0x00] = .error (.invalidOpcode 0x80) ∧ decode [0xFF] = .error (.invalidOpcode 0xFF) ∧
    decode [0xA9] = .error (.missingOperand 0xA9) := ⟨rfl, rfl, rfl, rfl, rfl⟩

/-- The table's bit numbers: the first byte is bits 7..0, the operand bytes lie above it. -/
theorem test_decode_table_word :
    decodeTableWord 8 0xEA = some .nop ∧ decodeTableWord 16 0x99A9 = some (.ldaImm 0x99) ∧
    decodeTableWord 24 0x30FF6C = some (.jmpInd 0x30FF) ∧ decodeTableWord 8 0xA9 = some (.ldaImm 0x00) ∧
    decodeTableWord 8 0x02 = none := ⟨rfl, rfl, rfl, rfl, rfl⟩

/-- The start state of the vectors: after RESET, with the code at 0x0200. -/
def start : State := { State.reset with pc := 0x0200 }

/-- The state after the last tick of the instruction placed at PC, and how many ticks it takes. -/
def ran (bytes : List Byte) (s : State) : State × Nat :=
  ((match step (s.beforeRetirementOf bytes) with
    | .next t => t
    | .fault _ => s
    | .refused _ => s), (s.atBoundaryWith bytes).ticksBeforeLast + 1)

/-- V41.1. -/
theorem test_v41_1_lda :
    let s := { start with a := 0x55 }
    let t := (ran [0xA9, 0x00] s).1
    t.a = 0x00 ∧ t.p.pack = 0x26 ∧ t.pc = 0x0202 ∧
    (ran [0xA9, 0x00] s).2 = 2 := by decide

/-- V41.8. -/
theorem test_v41_8_lda :
    let s := { start with x := 0x00, mem := [(0x0000, 0x12), (0x00FF, 0x34), (0x1234, 0x56)] }
    let t := (ran [0xA1, 0xFF] s).1
    t.a = 0x56 ∧ t.pc = 0x0202 ∧ t.p = s.p ∧
    (ran [0xA1, 0xFF] s).2 = 6 := by decide

/-- V41.10. -/
theorem test_v41_10_ldx :
    let s := { start with y := 0x02, mem := [(0x0001, 0x81)] }
    let t := (ran [0xB6, 0xFF] s).1
    t.x = 0x81 ∧ t.p.pack = 0xA4 ∧ t.pc = 0x0202 ∧
    (ran [0xB6, 0xFF] s).2 = 4 := by decide

/-- V41.11. -/
theorem test_v41_11_ldx :
    let s := { start with x := 0x55, y := 0x01, mem := [] }
    let t := (ran [0xBE, 0xFF, 0x10] s).1
    t.x = 0x00 ∧ t.p.pack = 0x26 ∧ t.pc = 0x0203 ∧
    (ran [0xBE, 0xFF, 0x10] s).2 = 5 := by decide

/-- V41.12. -/
theorem test_v41_12_ldy :
    let s := { start with x := 0x01, mem := [(0x1100, 0x01)] }
    let t := (ran [0xBC, 0xFF, 0x10] s).1
    t.y = 0x01 ∧ t.pc = 0x0203 ∧ t.p = s.p ∧
    (ran [0xBC, 0xFF, 0x10] s).2 = 5 := by decide

/-- V41.13. -/
theorem test_v41_13_ldy :
    let s := start
    let t := (ran [0xA0, 0xFF] s).1
    t.y = 0xFF ∧ t.p.pack = 0xA4 ∧ t.pc = 0x0202 ∧
    (ran [0xA0, 0xFF] s).2 = 2 := by decide

/-- V41.14. -/
theorem test_v41_14_sta :
    let s := { start with a := 0xAB, x := 0x01 }
    let t := (ran [0x9D, 0xFF, 0x12] s).1
    t.pc = 0x0203 ∧ t.mem.read 0x1300 = 0xAB ∧ t.p = s.p ∧
    (ran [0x9D, 0xFF, 0x12] s).2 = 5 := by decide

/-- V41.15. -/
theorem test_v41_15_sta :
    let s := { start with a := 0xCD, y := 0x05, mem := [(0x0080, 0xFE), (0x0081, 0x30)] }
    let t := (ran [0x91, 0x80] s).1
    t.pc = 0x0202 ∧ t.mem.read 0x3103 = 0xCD ∧ t.p = s.p ∧
    (ran [0x91, 0x80] s).2 = 6 := by decide

/-- V41.17. -/
theorem test_v41_17_stx :
    let s := { start with x := 0x22, y := 0x01 }
    let t := (ran [0x96, 0xFF] s).1
    t.pc = 0x0202 ∧ t.mem.read 0x0000 = 0x22 ∧ t.p = s.p ∧
    (ran [0x96, 0xFF] s).2 = 4 := by decide

/-- V41.18. -/
theorem test_v41_18_sty :
    let s := { start with y := 0x80 }
    let t := (ran [0x8C, 0x34, 0x12] s).1
    t.pc = 0x0203 ∧ t.mem.read 0x1234 = 0x80 ∧ t.p = s.p ∧
    (ran [0x8C, 0x34, 0x12] s).2 = 4 := by decide

/-- V42.1. -/
theorem test_v42_1_tax :
    let s := { start with a := 0x80 }
    let t := (ran [0xAA] s).1
    t.x = 0x80 ∧ t.p.pack = 0xA4 ∧ t.pc = 0x0201 ∧
    (ran [0xAA] s).2 = 2 := by decide

/-- V42.2. -/
theorem test_v42_2_tay :
    let s := { start with a := 0x00, y := 0x12 }
    let t := (ran [0xA8] s).1
    t.y = 0x00 ∧ t.p.pack = 0x26 ∧ t.pc = 0x0201 ∧
    (ran [0xA8] s).2 = 2 := by decide

/-- V42.3. -/
theorem test_v42_3_txa :
    let s := { start with x := 0x01 }
    let t := (ran [0x8A] s).1
    t.a = 0x01 ∧ t.pc = 0x0201 ∧ t.p = s.p ∧
    (ran [0x8A] s).2 = 2 := by decide

/-- V42.4. -/
theorem test_v42_4_tya :
    let s := { start with y := 0xFF }
    let t := (ran [0x98] s).1
    t.a = 0xFF ∧ t.p.pack = 0xA4 ∧ t.pc = 0x0201 ∧
    (ran [0x98] s).2 = 2 := by decide

/-- V42.5. -/
theorem test_v42_5_tsx :
    let s := start
    let t := (ran [0xBA] s).1
    t.x = 0xFD ∧ t.p.pack = 0xA4 ∧ t.pc = 0x0201 ∧
    (ran [0xBA] s).2 = 2 := by decide

/-- V42.6. -/
theorem test_v42_6_txs :
    let s := { start with x := 0x00 }
    let t := (ran [0x9A] s).1
    t.sp = 0x00 ∧ t.pc = 0x0201 ∧ t.p = s.p ∧
    (ran [0x9A] s).2 = 2 := by decide

/-- V42.7. -/
theorem test_v42_7_pha :
    let s := { start with a := 0x5A }
    let t := (ran [0x48] s).1
    t.sp = 0xFC ∧ t.pc = 0x0201 ∧ t.mem.read 0x01FD = 0x5A ∧ t.p = s.p ∧
    (ran [0x48] s).2 = 3 := by decide

/-- V42.8. -/
theorem test_v42_8_pha :
    let s := { start with a := 0x5A, sp := 0x00 }
    let t := (ran [0x48] s).1
    t.sp = 0xFF ∧ t.pc = 0x0201 ∧ t.mem.read 0x0100 = 0x5A ∧ t.p = s.p ∧
    (ran [0x48] s).2 = 3 := by decide

/-- V42.9. -/
theorem test_v42_9_php :
    let s := { start with p := Status.unpack 0xC3 }
    let t := (ran [0x08] s).1
    t.sp = 0xFC ∧ t.pc = 0x0201 ∧ t.mem.read 0x01FD = 0xF3 ∧ t.p = s.p ∧
    (ran [0x08] s).2 = 3 := by decide

/-- V42.10. -/
theorem test_v42_10_pla :
    let s := { start with a := 0x33, sp := 0xFC, mem := [] }
    let t := (ran [0x68] s).1
    t.a = 0x00 ∧ t.sp = 0xFD ∧ t.p.pack = 0x26 ∧ t.pc = 0x0201 ∧
    (ran [0x68] s).2 = 4 := by decide

/-- V42.11. -/
theorem test_v42_11_pla :
    let s := { start with sp := 0xFF, mem := [(0x0100, 0x90)] }
    let t := (ran [0x68] s).1
    t.a = 0x90 ∧ t.sp = 0x00 ∧ t.p.pack = 0xA4 ∧ t.pc = 0x0201 ∧
    (ran [0x68] s).2 = 4 := by decide

/-- V42.12. -/
theorem test_v42_12_plp :
    let s := { start with sp := 0xFC, mem := [(0x01FD, 0xFF)] }
    let t := (ran [0x28] s).1
    t.sp = 0xFD ∧ t.p.pack = 0xEF ∧ t.pc = 0x0201 ∧
    (ran [0x28] s).2 = 4 := by decide

/-- V42.13. -/
theorem test_v42_13_plp :
    let s := { start with sp := 0xFC, mem := [] }
    let t := (ran [0x28] s).1
    t.sp = 0xFD ∧ t.p.pack = 0x20 ∧ t.pc = 0x0201 ∧
    (ran [0x28] s).2 = 4 := by decide

/-- V43.1. -/
theorem test_v43_1_and :
    let s := { start with a := 0xF0 }
    let t := (ran [0x29, 0x0F] s).1
    t.a = 0x00 ∧ t.p.pack = 0x26 ∧ t.pc = 0x0202 ∧
    (ran [0x29, 0x0F] s).2 = 2 := by decide

/-- V43.2. -/
theorem test_v43_2_ora :
    let s := { start with a := 0x01 }
    let t := (ran [0x09, 0x80] s).1
    t.a = 0x81 ∧ t.p.pack = 0xA4 ∧ t.pc = 0x0202 ∧
    (ran [0x09, 0x80] s).2 = 2 := by decide

/-- V43.3. -/
theorem test_v43_3_eor :
    let s := { start with a := 0xFF }
    let t := (ran [0x49, 0xFF] s).1
    t.a = 0x00 ∧ t.p.pack = 0x26 ∧ t.pc = 0x0202 ∧
    (ran [0x49, 0xFF] s).2 = 2 := by decide

/-- V43.4. -/
theorem test_v43_4_bit :
    let s := { start with a := 0x01, mem := [(0x0010, 0xC0)] }
    let t := (ran [0x24, 0x10] s).1
    t.p.pack = 0xE6 ∧ t.pc = 0x0202 ∧
    (ran [0x24, 0x10] s).2 = 3 := by decide

/-- V43.5. -/
theorem test_v43_5_bit :
    let s := { start with a := 0x40, mem := [(0x0010, 0x40)] }
    let t := (ran [0x24, 0x10] s).1
    t.p.pack = 0x64 ∧ t.pc = 0x0202 ∧
    (ran [0x24, 0x10] s).2 = 3 := by decide

/-- V43.8. -/
theorem test_v43_8_adc :
    let s := { start with a := 0x80 }
    let t := (ran [0x69, 0x80] s).1
    t.a = 0x00 ∧ t.p.pack = 0x67 ∧ t.pc = 0x0202 ∧
    (ran [0x69, 0x80] s).2 = 2 := by decide

/-- V43.15. -/
theorem test_v43_15_adc :
    let s := { start with a := 0x01, p := Status.unpack 0x2C }
    let t := (ran [0x69, 0x01] s).1
    t.pc = 0x0202 ∧ t.fault = some (.decimalModeUnsupported 0x69 0x0200) ∧ t.halted = true ∧ t.p = s.p ∧
    (ran [0x69, 0x01] s).2 = 2 := by decide

/-- V43.11. -/
theorem test_v43_11_sbc :
    let s := { start with a := 0x00, p := Status.unpack 0x25 }
    let t := (ran [0xE9, 0x01] s).1
    t.a = 0xFF ∧ t.p.pack = 0xA4 ∧ t.pc = 0x0202 ∧
    (ran [0xE9, 0x01] s).2 = 2 := by decide

/-- V43.14. -/
theorem test_v43_14_sbc :
    let s := { start with a := 0x7F, p := Status.unpack 0x25 }
    let t := (ran [0xE9, 0xFF] s).1
    t.a = 0x80 ∧ t.p.pack = 0xE4 ∧ t.pc = 0x0202 ∧
    (ran [0xE9, 0xFF] s).2 = 2 := by decide

/-- V43.16. -/
theorem test_v43_16_cmp :
    let s := { start with a := 0x40 }
    let t := (ran [0xC9, 0x40] s).1
    t.p.pack = 0x27 ∧ t.pc = 0x0202 ∧
    (ran [0xC9, 0x40] s).2 = 2 := by decide

/-- V43.19. -/
theorem test_v43_19_cmp :
    let s := { start with a := 0x80, p := Status.unpack 0x2C }
    let t := (ran [0xC9, 0x00] s).1
    t.p.pack = 0xAD ∧ t.pc = 0x0202 ∧
    (ran [0xC9, 0x00] s).2 = 2 := by decide

/-- V43.20. -/
theorem test_v43_20_cpx :
    let s := { start with x := 0x20 }
    let t := (ran [0xE0, 0x10] s).1
    t.p.pack = 0x25 ∧ t.pc = 0x0202 ∧
    (ran [0xE0, 0x10] s).2 = 2 := by decide

/-- V43.21. -/
theorem test_v43_21_cpy :
    let s := { start with y := 0x00, mem := [] }
    let t := (ran [0xC4, 0x10] s).1
    t.p.pack = 0x27 ∧ t.pc = 0x0202 ∧
    (ran [0xC4, 0x10] s).2 = 3 := by decide

/-- V44.1. -/
theorem test_v44_1_asl :
    let s := { start with a := 0x81 }
    let t := (ran [0x0A] s).1
    t.a = 0x02 ∧ t.p.pack = 0x25 ∧ t.pc = 0x0201 ∧
    (ran [0x0A] s).2 = 2 := by decide

/-- V44.7. -/
theorem test_v44_7_asl :
    let s := { start with mem := [(0x0010, 0x40)] }
    let t := (ran [0x06, 0x10] s).1
    t.p.pack = 0xA4 ∧ t.pc = 0x0202 ∧ t.mem.read 0x0010 = 0x80 ∧
    (ran [0x06, 0x10] s).2 = 5 := by decide

/-- V44.3. -/
theorem test_v44_3_lsr :
    let s := { start with a := 0x01 }
    let t := (ran [0x4A] s).1
    t.a = 0x00 ∧ t.p.pack = 0x27 ∧ t.pc = 0x0201 ∧
    (ran [0x4A] s).2 = 2 := by decide

/-- V44.8. -/
theorem test_v44_8_lsr :
    let s := { start with x := 0x01, mem := [(0x1235, 0x02)] }
    let t := (ran [0x5E, 0x34, 0x12] s).1
    t.pc = 0x0203 ∧ t.mem.read 0x1235 = 0x01 ∧ t.p = s.p ∧
    (ran [0x5E, 0x34, 0x12] s).2 = 7 := by decide

/-- V44.4. -/
theorem test_v44_4_rol :
    let s := { start with a := 0x80, p := Status.unpack 0x25 }
    let t := (ran [0x2A] s).1
    t.a = 0x01 ∧ t.pc = 0x0201 ∧ t.p = s.p ∧
    (ran [0x2A] s).2 = 2 := by decide

/-- V44.9. -/
theorem test_v44_9_rol :
    let s := { start with x := 0x01, mem := [(0x0000, 0xFF)] }
    let t := (ran [0x36, 0xFF] s).1
    t.p.pack = 0xA5 ∧ t.pc = 0x0202 ∧ t.mem.read 0x0000 = 0xFE ∧
    (ran [0x36, 0xFF] s).2 = 6 := by decide

/-- V44.5. -/
theorem test_v44_5_ror :
    let s := { start with a := 0x01, p := Status.unpack 0x25 }
    let t := (ran [0x6A] s).1
    t.a = 0x80 ∧ t.p.pack = 0xA5 ∧ t.pc = 0x0201 ∧
    (ran [0x6A] s).2 = 2 := by decide

/-- V44.10. -/
theorem test_v44_10_ror :
    let s := { start with x := 0x01, p := Status.unpack 0x25, mem := [] }
    let t := (ran [0x7E, 0xFF, 0x12] s).1
    t.p.pack = 0xA4 ∧ t.pc = 0x0203 ∧ t.mem.read 0x1300 = 0x80 ∧
    (ran [0x7E, 0xFF, 0x12] s).2 = 7 := by decide

/-- V44.11. -/
theorem test_v44_11_inc :
    let s := { start with mem := [(0x0010, 0xFF)] }
    let t := (ran [0xE6, 0x10] s).1
    t.p.pack = 0x26 ∧ t.pc = 0x0202 ∧ t.mem.read 0x0010 = 0x00 ∧
    (ran [0xE6, 0x10] s).2 = 5 := by decide

/-- V44.13. -/
theorem test_v44_13_inc :
    let s := { start with x := 0x05, mem := [(0x1005, 0x7F)] }
    let t := (ran [0xFE, 0x00, 0x10] s).1
    t.p.pack = 0xA4 ∧ t.pc = 0x0203 ∧ t.mem.read 0x1005 = 0x80 ∧
    (ran [0xFE, 0x00, 0x10] s).2 = 7 := by decide

/-- V44.12. -/
theorem test_v44_12_dec :
    let s := { start with mem := [] }
    let t := (ran [0xC6, 0x10] s).1
    t.p.pack = 0xA4 ∧ t.pc = 0x0202 ∧ t.mem.read 0x0010 = 0xFF ∧
    (ran [0xC6, 0x10] s).2 = 5 := by decide

/-- V44.14. -/
theorem test_v44_14_inx :
    let s := { start with x := 0xFF }
    let t := (ran [0xE8] s).1
    t.x = 0x00 ∧ t.p.pack = 0x26 ∧ t.pc = 0x0201 ∧
    (ran [0xE8] s).2 = 2 := by decide

/-- V44.15. -/
theorem test_v44_15_dex :
    let s := { start with x := 0x00 }
    let t := (ran [0xCA] s).1
    t.x = 0xFF ∧ t.p.pack = 0xA4 ∧ t.pc = 0x0201 ∧
    (ran [0xCA] s).2 = 2 := by decide

/-- V44.16. -/
theorem test_v44_16_iny :
    let s := { start with y := 0x7F }
    let t := (ran [0xC8] s).1
    t.y = 0x80 ∧ t.p.pack = 0xA4 ∧ t.pc = 0x0201 ∧
    (ran [0xC8] s).2 = 2 := by decide

/-- V44.17. -/
theorem test_v44_17_dey :
    let s := { start with y := 0x01 }
    let t := (ran [0x88] s).1
    t.y = 0x00 ∧ t.p.pack = 0x26 ∧ t.pc = 0x0201 ∧
    (ran [0x88] s).2 = 2 := by decide

/-- V45.1. -/
theorem test_v45_1_bpl :
    let s := { start with p := Status.unpack 0x24 }
    let t := (ran [0x10, 0x10] s).1
    t.pc = 0x0212 ∧ t.p = s.p ∧
    (ran [0x10, 0x10] s).2 = 3 := by decide

/-- V45.2. -/
theorem test_v45_2_bpl :
    let s := { start with p := Status.unpack 0xA4 }
    let t := (ran [0x10, 0x10] s).1
    t.pc = 0x0202 ∧ t.p = s.p ∧
    (ran [0x10, 0x10] s).2 = 2 := by decide

/-- V45.3. -/
theorem test_v45_3_bmi :
    let s := { start with p := Status.unpack 0x24 }
    let t := (ran [0x30, 0x10] s).1
    t.pc = 0x0202 ∧ t.p = s.p ∧
    (ran [0x30, 0x10] s).2 = 2 := by decide

/-- V45.4. -/
theorem test_v45_4_bmi :
    let s := { start with p := Status.unpack 0xA4 }
    let t := (ran [0x30, 0x10] s).1
    t.pc = 0x0212 ∧ t.p = s.p ∧
    (ran [0x30, 0x10] s).2 = 3 := by decide

/-- V45.5. -/
theorem test_v45_5_bvc :
    let s := { start with p := Status.unpack 0x24 }
    let t := (ran [0x50, 0x10] s).1
    t.pc = 0x0212 ∧ t.p = s.p ∧
    (ran [0x50, 0x10] s).2 = 3 := by decide

/-- V45.6. -/
theorem test_v45_6_bvc :
    let s := { start with p := Status.unpack 0x64 }
    let t := (ran [0x50, 0x10] s).1
    t.pc = 0x0202 ∧ t.p = s.p ∧
    (ran [0x50, 0x10] s).2 = 2 := by decide

/-- V45.7. -/
theorem test_v45_7_bvs :
    let s := { start with p := Status.unpack 0x24 }
    let t := (ran [0x70, 0x10] s).1
    t.pc = 0x0202 ∧ t.p = s.p ∧
    (ran [0x70, 0x10] s).2 = 2 := by decide

/-- V45.8. -/
theorem test_v45_8_bvs :
    let s := { start with p := Status.unpack 0x64 }
    let t := (ran [0x70, 0x10] s).1
    t.pc = 0x0212 ∧ t.p = s.p ∧
    (ran [0x70, 0x10] s).2 = 3 := by decide

/-- V45.9. -/
theorem test_v45_9_bcc :
    let s := { start with p := Status.unpack 0x24 }
    let t := (ran [0x90, 0x10] s).1
    t.pc = 0x0212 ∧ t.p = s.p ∧
    (ran [0x90, 0x10] s).2 = 3 := by decide

/-- V45.10. -/
theorem test_v45_10_bcc :
    let s := { start with p := Status.unpack 0x25 }
    let t := (ran [0x90, 0x10] s).1
    t.pc = 0x0202 ∧ t.p = s.p ∧
    (ran [0x90, 0x10] s).2 = 2 := by decide

/-- V45.11. -/
theorem test_v45_11_bcs :
    let s := { start with p := Status.unpack 0x24 }
    let t := (ran [0xB0, 0x10] s).1
    t.pc = 0x0202 ∧ t.p = s.p ∧
    (ran [0xB0, 0x10] s).2 = 2 := by decide

/-- V45.12. -/
theorem test_v45_12_bcs :
    let s := { start with p := Status.unpack 0x25 }
    let t := (ran [0xB0, 0x10] s).1
    t.pc = 0x0212 ∧ t.p = s.p ∧
    (ran [0xB0, 0x10] s).2 = 3 := by decide

/-- V45.17. -/
theorem test_v45_17_bne :
    let s := { start with p := Status.unpack 0x24 }
    let t := (ran [0xD0, 0xFB] s).1
    t.pc = 0x01FD ∧ t.p = s.p ∧
    (ran [0xD0, 0xFB] s).2 = 4 := by decide

/-- V45.34. -/
theorem test_v45_34_bne :
    let s := { start with p := Status.unpack 0x24, pc := 0x0000 }
    let t := (ran [0xD0, 0xFC] s).1
    t.pc = 0xFFFE ∧ t.p = s.p ∧
    (ran [0xD0, 0xFC] s).2 = 4 := by decide

/-- V45.18. -/
theorem test_v45_18_beq :
    let s := { start with p := Status.unpack 0x26 }
    let t := (ran [0xF0, 0x7F] s).1
    t.pc = 0x0281 ∧ t.p = s.p ∧
    (ran [0xF0, 0x7F] s).2 = 3 := by decide

/-- V45.19. -/
theorem test_v45_19_beq :
    let s := { start with p := Status.unpack 0x26 }
    let t := (ran [0xF0, 0x80] s).1
    t.pc = 0x0182 ∧ t.p = s.p ∧
    (ran [0xF0, 0x80] s).2 = 4 := by decide

/-- V45.21. -/
theorem test_v45_21_jmp :
    let s := start
    let t := (ran [0x4C, 0x34, 0x12] s).1
    t.pc = 0x1234 ∧ t.p = s.p ∧
    (ran [0x4C, 0x34, 0x12] s).2 = 3 := by decide

/-- V45.22. -/
theorem test_v45_22_jmp :
    let s := { start with mem := [(0x3000, 0x80), (0x30FF, 0x40), (0x3100, 0x50)] }
    let t := (ran [0x6C, 0xFF, 0x30] s).1
    t.pc = 0x8040 ∧ t.p = s.p ∧
    (ran [0x6C, 0xFF, 0x30] s).2 = 5 := by decide

/-- V45.26. -/
theorem test_v45_26_jmp :
    let s := { start with model := .with65C02Fixes, mem := [(0x0000, 0x34), (0xFF00, 0x12), (0xFFFF, 0x78)] }
    let t := (ran [0x6C, 0xFF, 0xFF] s).1
    t.pc = 0x3478 ∧ t.p = s.p ∧
    (ran [0x6C, 0xFF, 0xFF] s).2 = 5 := by decide

/-- V45.27. -/
theorem test_v45_27_jsr :
    let s := start
    let t := (ran [0x20, 0x00, 0x30] s).1
    t.sp = 0xFB ∧ t.pc = 0x3000 ∧ t.mem.read 0x01FC = 0x02 ∧ t.mem.read 0x01FD = 0x02 ∧ t.p = s.p ∧
    (ran [0x20, 0x00, 0x30] s).2 = 6 := by decide

/-- V45.28. -/
theorem test_v45_28_jsr :
    let s := { start with sp := 0x00 }
    let t := (ran [0x20, 0x00, 0x30] s).1
    t.sp = 0xFE ∧ t.pc = 0x3000 ∧ t.mem.read 0x0100 = 0x02 ∧ t.mem.read 0x01FF = 0x02 ∧ t.p = s.p ∧
    (ran [0x20, 0x00, 0x30] s).2 = 6 := by decide

/-- V45.30. -/
theorem test_v45_30_rts :
    let s := { start with sp := 0xFB, mem := [(0x01FC, 0xFF), (0x01FD, 0x12)] }
    let t := (ran [0x60] s).1
    t.sp = 0xFD ∧ t.pc = 0x1300 ∧ t.p = s.p ∧
    (ran [0x60] s).2 = 6 := by decide

/-- V45.31. -/
theorem test_v45_31_rts :
    let s := { start with sp := 0xFB, mem := [(0x01FC, 0xFF), (0x01FD, 0xFF)] }
    let t := (ran [0x60] s).1
    t.sp = 0xFD ∧ t.pc = 0x0000 ∧ t.p = s.p ∧
    (ran [0x60] s).2 = 6 := by decide

/-- V45.32. -/
theorem test_v45_32_brk :
    let s := { start with p := Status.unpack 0xE3, mem := [(0xFFFE, 0xCD), (0xFFFF, 0xAB)] }
    let t := (ran [0x00] s).1
    t.sp = 0xFA ∧ t.p.pack = 0xE7 ∧ t.pc = 0xABCD ∧ t.mem.read 0x01FB = 0xF3 ∧ t.mem.read 0x01FC = 0x02 ∧
    t.mem.read 0x01FD = 0x02 ∧
    (ran [0x00] s).2 = 7 := by decide

/-- V45.33. -/
theorem test_v45_33_rti :
    let s := { start with sp := 0xFA, mem := [(0x01FB, 0xDB), (0x01FC, 0x34), (0x01FD, 0x12)] }
    let t := (ran [0x40] s).1
    t.sp = 0xFD ∧ t.p.pack = 0xEB ∧ t.pc = 0x1234 ∧
    (ran [0x40] s).2 = 6 := by decide

/-- V46.1. -/
theorem test_v46_1_clc :
    let s := { start with p := Status.unpack 0x25 }
    let t := (ran [0x18] s).1
    t.p.pack = 0x24 ∧ t.pc = 0x0201 ∧
    (ran [0x18] s).2 = 2 := by decide

/-- V46.2. -/
theorem test_v46_2_sec :
    let s := start
    let t := (ran [0x38] s).1
    t.p.pack = 0x25 ∧ t.pc = 0x0201 ∧
    (ran [0x38] s).2 = 2 := by decide

/-- V46.3. -/
theorem test_v46_3_cli :
    let s := start
    let t := (ran [0x58] s).1
    t.p.pack = 0x20 ∧ t.pc = 0x0201 ∧
    (ran [0x58] s).2 = 2 := by decide

/-- V46.4. -/
theorem test_v46_4_sei :
    let s := { start with p := Status.unpack 0x20 }
    let t := (ran [0x78] s).1
    t.p.pack = 0x24 ∧ t.pc = 0x0201 ∧
    (ran [0x78] s).2 = 2 := by decide

/-- V46.5. -/
theorem test_v46_5_clv :
    let s := { start with p := Status.unpack 0x64 }
    let t := (ran [0xB8] s).1
    t.p.pack = 0x24 ∧ t.pc = 0x0201 ∧
    (ran [0xB8] s).2 = 2 := by decide

/-- V46.6. -/
theorem test_v46_6_cld :
    let s := { start with p := Status.unpack 0x2C }
    let t := (ran [0xD8] s).1
    t.p.pack = 0x24 ∧ t.pc = 0x0201 ∧
    (ran [0xD8] s).2 = 2 := by decide

/-- V46.7. -/
theorem test_v46_7_sed :
    let s := start
    let t := (ran [0xF8] s).1
    t.pc = 0x0201 ∧ t.fault = some (.decimalModeUnsupported 0xF8 0x0200) ∧ t.halted = true ∧ t.p = s.p ∧
    (ran [0xF8] s).2 = 2 := by decide

/-- V46.8. -/
theorem test_v46_8_nop :
    let s := start
    let t := (ran [0xEA] s).1
    t.pc = 0x0201 ∧ t.p = s.p ∧
    (ran [0xEA] s).2 = 2 := by decide
/-- The state after `n` steps; the start state where a step answers none. -/
def steps (n : Nat) (s : State) : State :=
  match Host.Core.run Sys2Proof.core n s with
  | .next t => t
  | .fault _ => s
  | .refused _ => s

/-- T40.1: LDA $12FF,X, tick by tick: PC, cycle_index and A. -/
theorem test_t40_1 :
    let s := { start with x := 0x01, mem := [(0x0200, 0xBD), (0x0201, 0xFF), (0x0202, 0x12), (0x1300, 0x33)] }
    [1, 2, 3, 4, 5].map (fun n => ((steps n s).pc, (steps n s).dec.cycleIndex, (steps n s).a)) =
      [(0x0201, 1, 0x00), (0x0202, 2, 0x00), (0x0203, 3, 0x00), (0x0203, 4, 0x00), (0x0203, 0, 0x33)] := by decide

/-- T40.2 (S2'): BEQ +4 at 0x80FC with Z = 1 takes 4 ticks; S2: at 0x80FE it takes 3. -/
theorem test_t40_2 :
    let s := { start with pc := 0x80FC, p := Status.unpack 0x26 }
    let u := { start with pc := 0x80FE, p := Status.unpack 0x26 }
    (ran [0xF0, 0x04] s).1.pc = 0x8102 ∧ (ran [0xF0, 0x04] s).2 = 4 ∧
    (ran [0xF0, 0x04] u).1.pc = 0x8104 ∧ (ran [0xF0, 0x04] u).2 = 3 := by decide

/-- S6 and V41.9: the pointer of (Indirect),Y, its page crossing, and its wrap in page 0. -/
theorem test_s6 :
    let s := { start with y := 0x05, mem := [(0x0080, 0xFE), (0x0081, 0x30), (0x3103, 0x77)] }
    let u := { start with y := 0x01, mem := [(0x0000, 0x20), (0x00FF, 0xFF), (0x2100, 0x66)] }
    (ran [0xB1, 0x80] s).1.a = 0x77 ∧ (ran [0xB1, 0x80] s).2 = 6 ∧
    (ran [0xB1, 0xFF] u).1.a = 0x66 ∧ (ran [0xB1, 0xFF] u).2 = 6 := by decide

/-- V45.23: JMP ($30FF) in the other variant. -/
theorem test_v45_23_jmp :
    (ran [0x6C, 0xFF, 0x30] { start with
      model := .with65C02Fixes
      mem := [(0x3000, 0x80), (0x30FF, 0x40), (0x3100, 0x50)] }).1.pc = 0x5040 := by decide

/-- The vectors of spec/95_test_vectors.md 2.8, with NOPs at 0x0200 and RTI at the IRQ handler. -/
def vectored : State :=
  { start with mem := [(0x0200, 0xEA), (0x0201, 0xEA), (0x9000, 0x40), (0xFFFB, 0xA0), (0xFFFF, 0x90)] }

/-- I1 and I1b, from the state after CLI: nothing commits before the seventh tick of the entry. -/
theorem test_i1 :
    let s := { vectored with pc := 0x0201, p := Status.unpack 0x20, driver := [.requestInterrupt .irq] }
    let t := steps 8 s
    (steps 7 s).pc = 0x0201 ∧ (steps 7 s).dec.cycleIndex = 6 ∧ (steps 7 s).mem = s.mem ∧
    t.pc = 0x9000 ∧ t.sp = 0xFA ∧ t.p.pack = 0x24 ∧ t.mem.read 0x01FD = 0x02 ∧ t.mem.read 0x01FC = 0x01 ∧
    t.mem.read 0x01FB = 0x20 := by decide

/-- I2 and I2b: with I = 1 the request is discarded. -/
theorem test_i2 :
    let s := { vectored with driver := [.requestInterrupt .irq] }
    (steps 1 s).irqPending = false ∧ (steps 3 s).pc = 0x0201 ∧ (steps 4 s).pc = 0x0202 := by decide

/-- I3: NMI is taken with I = 1. -/
theorem test_i3 :
    let t := steps 8 { vectored with driver := [.requestInterrupt .nmi] }
    t.pc = 0xA000 ∧ t.sp = 0xFA ∧ t.p.pack = 0x24 ∧ t.mem.read 0x01FB = 0x24 := by decide

/-- I4 and I4b: NMI first, and the IRQ is dropped at the next boundary. -/
theorem test_i4 :
    let s := { vectored with
      pc := 0x0201
      p := Status.unpack 0x20
      driver := [.requestInterrupt .irq, .requestInterrupt .nmi] }
    (steps 9 s).pc = 0xA000 ∧ (steps 9 s).irqPending = true ∧
    (steps 10 s).pc = 0xA001 ∧ (steps 10 s).irqPending = false := by decide

/-- I7, I7b and I8: an invalid opcode halts on the fetch tick, ticks do nothing after it, a request is latched. -/
theorem test_i7 :
    let s := { start with mem := [(0x0200, 0x02)], driver := [.tick, .requestInterrupt .nmi] }
    (steps 1 s).halted = true ∧ (steps 1 s).fault = some (.invalidOpcode 0x02 0x0200) ∧ (steps 1 s).pc = 0x0201 ∧
    (steps 5 s) = { steps 1 s with nmiPending := true, driver := [] } := by decide

/-- I8b, RS1 and RS5: RESET, from a halted core with a latch set. -/
theorem test_reset_action :
    let t := steps 1 { start with
      a := 0x55
      p := Status.unpack 0xEF
      halted := true
      fault := some (.invalidOpcode 0x02 0x0200)
      nmiPending := true
      mem := [(0xFFFC, 0x34), (0xFFFD, 0x12)]
      driver := [.reset] }
    t.pc = 0x1234 ∧ t.a = 0x00 ∧ t.sp = 0xFD ∧ t.p.pack = 0x24 ∧ t.halted = false ∧ t.fault = none ∧
    t.nmiPending = false ∧ t.dec = DecodeState.boundary := by decide

/-- RS4: before the first RESET a tick is refused, and a RESET and a memory write are not (R305). -/
theorem test_before_reset :
    let s := State.construct .original [] [.driverWrite 0xFFFD 0x02, .reset] start
    step { s with driver := [] } = .refused .beforeFirstReset ∧ (steps 2 s).pc = 0x0200 := ⟨rfl, by decide⟩

/-- The observation port packs P (spec/00_scope.md R6), and the kinds are numbered as R270 to R273 number them. -/
theorem test_observe :
    State.reset.observe = ⟨0x00, 0x00, 0x00, 0xFD, 0x0000, 0x24, 0⟩ ∧
    [Fault.invalidOpcode 0x02 0x0200, .decimalModeUnsupported 0xF8 0x0200, .memoryBoundsViolation].map Fault.kind =
      [1, 2, 3] := by decide

/-- A step runs an instruction placed in the state after reset (log 1). -/
theorem test_with_fetch_word :
    (steps 1 (State.reset.withFetchWord 16 0x99A9)).a = 0x99 ∧
    (steps 1 (State.reset.withFetchWord 8 0xEA)).pc = 0x0001 ∧
    (steps 1 (State.reset.withFetchWord 24 0x123420)).pc = 0x1234 ∧
    (steps 1 (State.reset.withFetchWord 24 0x1234BD)).dec = DecodeState.boundary ∧
    (steps 1 (State.reset.withFetchWord 8 0x02)).fault = some (.invalidOpcode 0x02 0x0000) := by decide

/-- Memory keeps its canonical form, and writing the unlisted byte removes the entry. -/
theorem test_memory_canonical :
    Memory.write [(0x0010, 0x01)] 0x0010 0x00 = [] ∧
    Memory.write [(0x0010, 0x01)] 0x0008 0x02 = [(0x0008, 0x02), (0x0010, 0x01)] ∧
    Memory.wf [(0x0010, 0x01), (0x0008, 0x02)] = false ∧ Memory.wf [(0x0010, 0x00)] = false := by decide

/-! Witnesses. -/

/-- An instruction in flight: LDA $12FF,X in `start`, `n` ticks in. -/
def inLda (n : Nat) : State :=
  steps n { start with x := 0x01, mem := [(0x0200, 0xBD), (0x0201, 0xFF), (0x0202, 0x12), (0x1300, 0x33)] }

theorem test_inLda_running : ∀ n ∈ [1, 2, 3, 4], (inLda n).Running := by
  simp only [List.mem_cons, List.not_mem_nil, or_false, forall_eq_or_imp, forall_eq]
  exact ⟨⟨rfl, rfl⟩, ⟨rfl, rfl⟩, ⟨rfl, rfl⟩, ⟨rfl, rfl⟩⟩

theorem test_witness_EncodeOfDecodeIsTheBytes :
    decode [0xB9, 0xFF, 0xFF] = .ok (.ldaAbsY 0xFFFF, []) ∧ decode [0xA9, 0x00, 0x01] = .ok (.ldaImm 0x00, [0x01]) :=
  ⟨rfl, rfl⟩

theorem test_witness_WellFormedBytesAreOneWholeInstruction :
    wellFormed [0xFE, 0xFF, 0xFF] = true ∧ decode [0xFE, 0xFF, 0xFF] = .ok (.incAbsX 0xFFFF, []) := ⟨rfl, rfl⟩

theorem test_witness_OpcodeMatrixShape :
    (descriptor 0x1E).map (fun d => (d.size, d.baseCycles)) = some (3, 7) ∧
    (descriptor 0xEA).map (fun d => (d.size, d.baseCycles)) = some (1, 2) ∧ (descriptor 0x02).isNone = true :=
  ⟨rfl, rfl, rfl⟩

theorem test_witness_ReadAfterWrite :
    Memory.wf [(0x0000, 0x01), (0xFFFF, 0x02)] = true ∧
    (Memory.write [(0x0000, 0x01), (0xFFFF, 0x02)] 0xFFFF 0x00).read 0xFFFF = 0x00 ∧
    (Memory.write [(0x0000, 0x01), (0xFFFF, 0x02)] 0xFFFF 0x00).read 0x0000 = 0x01 := by decide

/-- Descriptors of each penalty, at the values where each clause turns. -/
theorem test_witness_PagePenaltyIsTheCrossing :
    let at' (op0 x y : Byte) (mem : Memory) : State :=
      { start with x := x, y := y, mem := mem, dec := { DecodeState.boundary with op0 := op0, op1 := 0xFF } }
    (∃ d, descriptor 0xEA = some d ∧ d.penalty = .none) ∧
    (∃ d, descriptor 0xBD = some d ∧ d.penalty = .page ∧ d.mode = .absoluteX ∧
      extraCycles d (at' 0xFE 0x01 0x00 []) = 0 ∧ extraCycles d (at' 0xFF 0x01 0x00 []) = 1) ∧
    (∃ d, descriptor 0xB9 = some d ∧ d.penalty = .page ∧ d.mode = .absoluteY ∧
      extraCycles d (at' 0xFE 0x00 0x01 []) = 0 ∧ extraCycles d (at' 0xFF 0x00 0x01 []) = 1) ∧
    (∃ d, descriptor 0xB1 = some d ∧ d.penalty = .page ∧ d.mode = .indirectY ∧
      extraCycles d (at' 0x80 0x00 0x01 [(0x0080, 0xFE)]) = 0 ∧
      extraCycles d (at' 0x80 0x00 0x02 [(0x0080, 0xFE)]) = 1) :=
  ⟨⟨_, rfl, rfl⟩, ⟨_, rfl, rfl, rfl, rfl, rfl⟩, ⟨_, rfl, rfl, rfl, rfl, rfl⟩, ⟨_, rfl, rfl, rfl, rfl, rfl⟩⟩

theorem test_witness_BranchPenaltyByTargetPage :
    let at' (p off : Byte) : State :=
      { start with pc := 0x0280, p := Status.unpack p, dec := { DecodeState.boundary with op0 := off } }
    ∃ d, descriptor 0xF0 = some d ∧ d.penalty = .branch .eq ∧
      extraCycles d (at' 0x24 0x7F) = 0 ∧ extraCycles d (at' 0x26 0x7F) = 1 ∧ extraCycles d (at' 0x26 0x80) = 1 ∧
      extraCycles d { at' 0x26 0x80 with pc := 0x027F } = 2 ∧
      extraCycles d { at' 0x26 0x7F with pc := 0x0281 } = 2 :=
  ⟨_, rfl, rfl, rfl, rfl, rfl, rfl, rfl⟩

theorem test_witness_HaltedTickIdlesAndNothingRunsBeforeReset :
    (inLda 1).resetApplied = true ∧ ({ inLda 1 with halted := true } : State).halted = true ∧
    ({ start with resetApplied := false } : State).resetApplied = false ∧ start.driver = [] ∧
    ({ start with driver := [.reset] } : State).driver = [.reset] := by decide

theorem test_witness_BoundaryTickFetchesOpcode :
    vectored.AtBoundary ∧ vectored.nmiPending = false ∧ vectored.irqPending = false ∧
    (descriptor (vectored.mem.read vectored.pc)).isSome = true ∧
    (descriptor (({ start with mem := [(0x0200, 0x02)] } : State).mem.read 0x0200)).isNone = true :=
  ⟨⟨⟨rfl, rfl⟩, rfl⟩, rfl, rfl, rfl, rfl⟩

theorem test_witness_InterruptAcceptance :
    ({ start with nmiPending := true } : State).AtBoundary ∧
    ({ start with irqPending := true, p := Status.unpack 0x20 } : State).AtBoundary ∧
    (Status.unpack 0x20).i = false ∧ ({ start with irqPending := true } : State).AtBoundary ∧ start.p.i = true ∧
    start.nmiPending = false :=
  ⟨⟨⟨rfl, rfl⟩, rfl⟩, ⟨⟨rfl, rfl⟩, rfl⟩, rfl, ⟨⟨rfl, rfl⟩, rfl⟩, rfl, rfl⟩

/-- `cycle_index` 1, 2 and 3 of a three-byte instruction: the two operand fetches and a tick after them. -/
theorem test_witness_OperandFetchAndCycleCount :
    ∃ d, (inLda 1).InFlight d ∧ (inLda 2).InFlight d ∧ (inLda 3).InFlight d ∧ d.size = 3 ∧
      (inLda 1).dec.cycleIndex = 1 ∧ (inLda 2).dec.cycleIndex = 2 ∧ (inLda 3).dec.cycleIndex = 3 ∧
      ¬ (inLda 1).retiresNow d ∧ ¬ (inLda 2).retiresNow d ∧ ¬ (inLda 3).retiresNow d :=
  ⟨_, ⟨⟨rfl, rfl⟩, rfl, rfl, rfl⟩, ⟨⟨rfl, rfl⟩, rfl, rfl, rfl⟩, ⟨⟨rfl, rfl⟩, rfl, rfl, rfl⟩, rfl, rfl, rfl, rfl,
    by unfold State.retiresNow; decide, by unfold State.retiresNow; decide, by unfold State.retiresNow; decide⟩

/-- The last tick of LDA $12FF,X, which retires, and of SED, which halts. -/
theorem test_witness_RetirementRunsTheDecodedInstruction :
    (∃ d u, (inLda 4).InFlight d ∧ (inLda 4).retiresNow d ∧
      decode [((inLda 4).spendCycle d).dec.opcodeByte, ((inLda 4).spendCycle d).dec.op0,
        ((inLda 4).spendCycle d).dec.op1] = .ok (.ldaAbsX 0x12FF, []) ∧
      exec (.ldaAbsX 0x12FF) ((inLda 4).spendCycle d) = .next u ∧ u.halted = false) ∧
    (∃ d u, (start.beforeRetirementOf [0xF8]).InFlight d ∧ (start.beforeRetirementOf [0xF8]).retiresNow d ∧
      exec .sed ((start.beforeRetirementOf [0xF8]).spendCycle d) = .next u ∧ u.halted = true) :=
  ⟨⟨_, _, ⟨⟨rfl, rfl⟩, rfl, rfl, rfl⟩, rfl, rfl, rfl, rfl⟩, ⟨_, _, ⟨⟨rfl, rfl⟩, rfl, rfl, rfl⟩, rfl, rfl, rfl⟩⟩

theorem test_witness_WholeInstructionTakesItsTicks :
    (∃ d u, vectored.AtBoundary ∧ vectored.driver = [] ∧ vectored.nmiPending = false ∧ vectored.irqPending = false ∧
      decode [vectored.mem.read 0x0200, vectored.mem.read 0x0201, vectored.mem.read 0x0202] =
        .ok (.nop, [0xEA, 0x00]) ∧
      descriptor (vectored.mem.read vectored.pc) = some d ∧ exec .nop (vectored.fetched .nop 2 0) = .next u) ∧
    (inLda 0).AtBoundary ∧ (inLda 0).driver = [] ∧ (inLda 0).mem.read 0x0200 = 0xBD :=
  ⟨⟨_, _, ⟨⟨rfl, rfl⟩, rfl⟩, rfl, rfl, rfl, rfl, rfl, rfl⟩, ⟨⟨rfl, rfl⟩, rfl⟩, rfl, rfl⟩

theorem test_witness_InterruptEntryTakesSevenTicks :
    ({ vectored with nmiPending := true } : State).AtBoundary ∧
    ({ vectored with irqPending := true, p := Status.unpack 0x20 } : State).AtBoundary ∧
    (Status.unpack 0x20).i = false ∧ vectored.nmiPending = false ∧ vectored.driver = [] :=
  ⟨⟨⟨rfl, rfl⟩, rfl⟩, ⟨⟨rfl, rfl⟩, rfl⟩, rfl, rfl, rfl⟩

theorem test_witness_RequestInterruptLatches :
    start.resetApplied = true ∧ start.p.i = true ∧
    ({ start with p := Status.unpack 0x20 } : State).p.i = false := by decide

theorem test_witness_NmiCannotBeMasked :
    start.resetApplied = true ∧ start.AtBoundary ∧ ({ start with nmiPending := true } : State).AtBoundary :=
  ⟨rfl, ⟨⟨rfl, rfl⟩, rfl⟩, ⟨⟨rfl, rfl⟩, rfl⟩⟩

theorem test_witness_IrqPendingWithNmiIsLost :
    let s := { vectored with nmiPending := true, irqPending := true }
    s.AtBoundary ∧ s.driver = [] ∧ s.nmiPending = true ∧ s.irqPending = true :=
  ⟨⟨⟨rfl, rfl⟩, rfl⟩, rfl, rfl, rfl⟩

/-- A tick that waits and a tick that retires. -/
theorem test_witness_InFlightInstructionIgnoresLatches :
    ∃ d t u, (inLda 2).InFlight d ∧ (inLda 4).InFlight d ∧ tick (inLda 2) = .next t ∧ tick (inLda 4) = .next u :=
  ⟨_, _, _, ⟨⟨rfl, rfl⟩, rfl, rfl, rfl⟩, ⟨⟨rfl, rfl⟩, rfl, rfl, rfl⟩, rfl, rfl⟩

theorem test_witness_LoadsWriteRegisterAndNZ :
    (Instr.ldaIndY 0xFF).mnemonic = .lda ∧ (Instr.ldxZpY 0xFF).mnemonic = .ldx ∧
    (Instr.ldyAbsX 0xFFFF).mnemonic = .ldy := ⟨rfl, rfl, rfl⟩

theorem test_witness_StoresWriteOneByte :
    (Instr.staAbsX 0xFFFF).mnemonic = .sta ∧ (Instr.stxZpY 0xFF).mnemonic = .stx ∧
    (Instr.styAbs 0x0000).mnemonic = .sty := ⟨rfl, rfl, rfl⟩

theorem test_witness_LogicWritesAccumulatorAndNZ :
    (Instr.andImm 0x00).mnemonic = .and ∧ (Instr.oraIndX 0xFF).mnemonic = .ora ∧
    (Instr.eorAbsY 0xFFFF).mnemonic = .eor := ⟨rfl, rfl, rfl⟩

theorem test_witness_BitWritesThreeFlags :
    (Instr.bitZp 0xFF).mnemonic = .bit ∧ (Instr.bitAbs 0xFFFF).mnemonic = .bit := ⟨rfl, rfl⟩

theorem test_witness_AdcAddsWithCarry :
    (Instr.adcImm 0xFF).mnemonic = .adc ∧ start.p.d = false ∧ (Status.unpack 0x28).d = true := ⟨rfl, rfl, rfl⟩

theorem test_witness_SbcSubtractsWithBorrow :
    (Instr.sbcIndY 0xFF).mnemonic = .sbc ∧ start.p.d = false ∧ (Status.unpack 0x28).d = true := ⟨rfl, rfl, rfl⟩

theorem test_witness_ComparesWriteThreeFlags :
    (Instr.cmpImm 0x80).mnemonic = .cmp ∧ (Instr.cpxZp 0xFF).mnemonic = .cpx ∧
    (Instr.cpyAbs 0xFFFF).mnemonic = .cpy := ⟨rfl, rfl, rfl⟩

theorem test_witness_ShiftsAndRotates :
    Instr.aslA.mnemonic = .asl ∧ (Instr.lsrZp 0xFF).mnemonic = .lsr ∧ (Instr.rolAbsX 0xFFFF).mnemonic = .rol ∧
    Instr.rorA.mnemonic = .ror := ⟨rfl, rfl, rfl, rfl⟩

theorem test_witness_IncAndDecMemory :
    (Instr.incAbsX 0xFFFF).mnemonic = .inc ∧ (Instr.decZpX 0xFF).mnemonic = .dec := ⟨rfl, rfl⟩

/-- NOP writes nothing; LDA writes A, N and Z only. -/
theorem test_witness_RegisterFrame :
    exec .nop start = .next start ∧
    [writesA, writesX, writesY, writesSP, writesPC].map (· .nop) = [false, false, false, false, false] ∧
    [writesA, writesX, writesY, writesSP, writesPC].map (· (.ldaImm 0x80)) = [true, false, false, false, false] :=
  ⟨rfl, rfl, rfl⟩

theorem test_witness_FlagFrame :
    exec .nop start = .next start ∧
    [writesNZ, writesV, writesD, writesI, writesC].map (· .nop) = [false, false, false, false, false] ∧
    [writesNZ, writesV, writesD, writesI, writesC].map (· (.bitZp 0x10)) = [true, true, false, false, false] :=
  ⟨rfl, rfl, rfl⟩

/-- Beside the bytes that JSR pushes with SP = 0x00 (0x0100 and 0x01FF), and beside a store at 0xFFFF. -/
theorem test_witness_MemoryFrame :
    (∃ t, exec (.jsr 0x3000) { start with sp := 0x00 } = .next t) ∧
    storedAddresses (.jsr 0x3000) { start with sp := 0x00 } = [0x0100, 0x01FF] ∧
    (0x00FF : Word) ∉ storedAddresses (.jsr 0x3000) { start with sp := 0x00 } ∧
    (0x0101 : Word) ∉ storedAddresses (.jsr 0x3000) { start with sp := 0x00 } ∧
    (∃ t, exec (.staAbsX 0xFFFE) { start with x := 0x01 } = .next t) ∧
    storedAddresses (.staAbsX 0xFFFE) { start with x := 0x01 } = [0xFFFF] ∧
    (0x0000 : Word) ∉ storedAddresses (.staAbsX 0xFFFE) { start with x := 0x01 } :=
  ⟨⟨_, rfl⟩, by decide, by decide, by decide, ⟨_, rfl⟩, by decide, by decide⟩

theorem test_witness_ControlStateFrame :
    (∃ t, exec .brk start = .next t) ∧ canRaise .brk = false ∧ (∃ t, exec .sed start = .next t) ∧
    canRaise .sed = true := ⟨⟨_, rfl⟩, rfl, ⟨_, rfl⟩, rfl⟩

/-- The invariant holds at a boundary that is not the reset state. -/
theorem test_start_inv : start.Inv where
  memory := rfl
  boundary _ := rfl
  entry _ h := nomatch h
  inFlight h := nomatch h
  ranges := by decide
  halt := ⟨rfl, fun h => nomatch h⟩

/-- It holds with an instruction in flight, one tick before the page-cross tick that retires it. -/
theorem test_inFlight_inv : (inLda 4).Inv where
  memory := rfl
  boundary h := nomatch h
  entry _ h := nomatch h
  inFlight _ _ _ := ⟨_, rfl, by decide, by decide, by decide, by decide, by decide, by decide, by decide⟩
  ranges := by decide
  halt := ⟨rfl, fun h => nomatch h⟩

theorem test_witness_EveryStepKeepsInvariant :
    start.Inv ∧ (inLda 4).Inv ∧ (∃ t, step start = .next t) ∧ (∃ t, step (inLda 4) = .next t) :=
  ⟨test_start_inv, test_inFlight_inv, ⟨_, rfl⟩, ⟨_, rfl⟩⟩

theorem test_witness_EveryStepAnswersANextState : start.Inv ∧ start.resetApplied = true := ⟨test_start_inv, rfl⟩

/-- The invalid opcode of I7 halts on a tick that commits nothing: the last clause of the statement. -/
theorem test_quiet_invalid_opcode :
    let s := { start with mem := [(0x0200, 0x02)] }
    s.driver = [] ∧ s.dec.fetchNext = true ∧ (descriptor (s.mem.read s.pc)).isNone = true ∧
    (steps 1 s).fault = some (.invalidOpcode 0x02 0x0200) ∧ (steps 1 s).pc.toNat = (s.pc.toNat + 1) % 65536 := by decide

/-- A boundary tick, and a tick that waits. -/
theorem test_witness_QuietTicksCommitNothing :
    (start.driver = [] ∧ (∃ t, step start = .next t) ∧ (∀ kind, start.InEntry kind → start.dec.cycleIndex + 1 ≠ 7) ∧
      (∀ d, start.InFlight d → ¬ start.retiresNow d)) ∧
    ((inLda 2).driver = [] ∧ (∃ t, step (inLda 2) = .next t) ∧
      (∀ kind, (inLda 2).InEntry kind → (inLda 2).dec.cycleIndex + 1 ≠ 7) ∧
      (∀ d, (inLda 2).InFlight d → ¬ (inLda 2).retiresNow d)) := by
  refine ⟨⟨rfl, ⟨_, rfl⟩, fun _ h => (nomatch h.2.2), fun _ h => (nomatch h.2.1)⟩,
    ⟨rfl, ⟨_, rfl⟩, fun _ h => (nomatch h.2.2), fun d h => ?_⟩⟩
  have hd : descriptor 0xBD = some d := h.2.2.2
  obtain rfl : _ = d := Option.some.inj (show some _ = some d from hd)
  unfold State.retiresNow
  decide

/-- PLP of a byte with bit 3 set. -/
theorem test_witness_DecimalFlagIsSetOnlyByPulls :
    let s := { start with sp := 0xFC, mem := [(0x01FD, 0x08)] }.beforeRetirementOf [0x28]
    ∃ t, step s = .next t ∧ s.p.d = false ∧ t.p.d = true := ⟨_, rfl, rfl, rfl⟩

theorem test_witness_StackRoundTrips :
    start.mem.wf = true ∧ ({ start with sp := 0x00, mem := [(0x0100, 0x01)] } : State).mem.wf = true := ⟨rfl, rfl⟩

/-- Before the first RESET and after it, at the two ends of memory. -/
theorem test_witness_DriverWriteChangesOneByte :
    let s := { start with resetApplied := false, mem := [(0x0000, 0x01)], driver := [.driverWrite 0xFFFF 0x02, .tick] }
    s.mem.wf = true ∧ s.driver = .driverWrite 0xFFFF 0x02 :: [.tick] ∧ start.mem.wf = true ∧
    (steps 1 s).mem = [(0x0000, 0x01), (0xFFFF, 0x02)] ∧ (steps 1 s).driver = [.tick] ∧
    (steps 1 { start with mem := [(0x0000, 0x01)], driver := [.driverWrite 0x0000 0x00] }).mem = [] := by decide

theorem test_witness_AdcThenSbcRestores : start.p.d = false := rfl

end Sys2Proof.Tests
end

section
/-! The status byte bit by bit, and what P reads after a write (spec/10_state.md R26, R27). -/

namespace Sys2Proof.Machine

/-- The sum of weighted flags in `Status.pack` is the byte with these bits, bit 0 first (R26). -/
theorem Status.pack_eq_ofBoolListLE (p : Status) :
    p.pack = BitVec.ofBoolListLE [p.c, p.z, p.i, p.d, false, true, p.v, p.n] := by
  obtain ⟨n, v, d, i, z, c⟩ := p
  decide +revert

theorem Status.getLsbD_pack (p : Status) (k : Nat) :
    p.pack.getLsbD k = [p.c, p.z, p.i, p.d, false, true, p.v, p.n].getD k false := by
  rw [p.pack_eq_ofBoolListLE, BitVec.getLsbD_ofBoolListLE]

/-- Bit by bit: six bits come back from the flags, and bits 5 and 4 are the constants of `Status.getLsbD_pack`,
which the two masks force as well. -/
theorem Status.pack_unpack (b : Byte) : (Status.unpack b).pack = (b &&& 0xCF) ||| 0x20 := by
  refine BitVec.eq_of_getLsbD_eq fun k hk => ?_
  rw [Status.getLsbD_pack]
  interval_cases k <;> simp [Status.unpack]

/-- Settles O7: each flag is its bit by the definition of `Status.unpack`, and the read-back is
`Status.pack_unpack`. -/
theorem unpackDiscardsBitsFiveAndFour : Obligations.UnpackDiscardsBitsFiveAndFour := by
  intro b
  exact ⟨rfl, rfl, rfl, rfl, rfl, rfl, Status.pack_unpack b⟩

end Sys2Proof.Machine
end

section
/-! Reading a byte after a write (spec/20_memory.md R60). -/

namespace Sys2Proof.Machine

@[simp] theorem Memory.readAt_nil (a : Nat) : Memory.readAt [] a = unlistedByte := rfl

@[simp] theorem Memory.readAt_cons (k : Nat) (w : Byte) (rest : Memory) (a : Nat) :
    Memory.readAt ((k, w) :: rest) a = if k = a then w else rest.readAt a := rfl

/-- The entries after the one for cell `k` list only cells above it. -/
theorem Memory.wfFrom_tail {l k : Nat} {w : Byte} {rest : Memory} (h : Memory.wfFrom l ((k, w) :: rest) = true) :
    rest.wfFrom (k + 1) = true :=
  (Bool.and_eq_true_iff.mp h).2

/-- Along the cells of a canonical memory. Writing the unlisted byte lists nothing, so there the cell must have no
later entry: `Memory.readAt_below` says so, and it is why the canonical form is a premise. -/
theorem Memory.readAt_writeAt {l : Nat} (m : Memory) (a b : Nat) (v : Byte) (h : m.wfFrom l = true) :
    (m.writeAt a v).readAt b = if b = a then v else m.readAt b := by
  induction m generalizing l with
  | nil =>
    by_cases hv : v = unlistedByte
    · simp [Memory.writeAt, hv]
    · simp [Memory.writeAt, hv, eq_comm]
  | cons c rest ih =>
    obtain ⟨k, w⟩ := c
    have hrest := Memory.wfFrom_tail h
    have hunlisted (hak : a ≤ k) : Memory.readAt rest a = unlistedByte :=
      Memory.readAt_below rest a hrest (by omega)
    rcases Nat.lt_trichotomy a k with hlt | rfl | hgt
    · by_cases hv : v = unlistedByte
      · have hcell : Memory.readAt ((k, w) :: rest) a = v := by
          rw [Memory.readAt_cons, if_neg hlt.ne', hunlisted hlt.le, hv]
        rw [Memory.writeAt, if_pos hlt, if_pos hv]
        split
        · next hba => rw [hba, hcell]
        · rfl
      · simp [Memory.writeAt, hlt, hv, eq_comm]
    · by_cases hv : v = unlistedByte
      · have hcell : Memory.readAt rest a = v := by rw [hunlisted le_rfl, hv]
        rw [Memory.writeAt, if_neg (lt_irrefl a), if_pos rfl, if_pos hv]
        split
        · next hba => rw [hba, hcell]
        · next hba => rw [Memory.readAt_cons, if_neg (Ne.symm hba)]
      · rw [Memory.writeAt, if_neg (lt_irrefl a), if_pos rfl, if_neg hv]
        grind [Memory.readAt_cons]
    · rw [Memory.writeAt, if_neg hgt.not_gt, if_neg hgt.ne']
      simp only [Memory.readAt_cons, ih hrest]
      split
      · next hkb => rw [if_neg (hkb ▸ hgt.ne)]
      · rfl

theorem Memory.read_write (m : Memory) (a b : Word) (v : Byte) (h : m.wf = true) :
    (m.write a v).read b = if b = a then v else m.read b := by
  simpa only [Memory.write, Memory.read, BitVec.toNat_inj] using Memory.readAt_writeAt m a.toNat b.toNat v h

/-- Settles O11, by `Memory.readAt_writeAt`: a 16-bit address is its cell's number. -/
theorem readAfterWrite : Obligations.ReadAfterWrite :=
  Memory.read_write

end Sys2Proof.Machine
end

section
/-! The stack page's addresses and the stack pointer's wrap, over integers (spec/20_memory.md R64, R65). -/

namespace Sys2Proof.Machine

/-- `0x0100 | SP` is a sum because SP fits below bit 8. -/
theorem stackAddress_eq_ofNat (sp : Byte) : stackAddress sp = BitVec.ofNat 16 (256 + sp.toNat) := by
  have hor : 256 + sp.toNat = 256 ||| sp.toNat := Nat.two_pow_add_eq_or_of_lt sp.isLt 1
  rw [hor, BitVec.ofNat_or, BitVec.ofNat_toNat]
  rfl

theorem byte_sub_one_eq_ofNat (b : Byte) : b - 1 = BitVec.ofNat 8 ((b.toNat + 255) % 256) := by
  bv_omega

theorem byte_add_one_eq_ofNat (b : Byte) : b + 1 = BitVec.ofNat 8 ((b.toNat + 1) % 256) := by
  bv_omega

/-- Settles O12, from what push and pull do (`State.push_eq`, `State.pull_eq`) and the integer forms of the stack
address and of SP's two moves. -/
theorem pushAndPullMoveTheStackPointer : Obligations.PushAndPullMoveTheStackPointer := by
  intro s v
  constructor
  · rw [State.push_eq, stackAddress_eq_ofNat, byte_sub_one_eq_ofNat]
  · have hnext : (s.sp + 1).toNat = (s.sp.toNat + 1) % 256 := BitVec.toNat_add s.sp 1
    rw [State.pull_eq, stackAddress_eq_ofNat, hnext, byte_add_one_eq_ofNat]

end Sys2Proof.Machine
end

section
/-! The branch penalty by the pages of PC and the target, over integers (spec/40_dispatcher.md R133). -/

namespace Sys2Proof.Machine

/-- Page number `v / 256` is the high byte. -/
theorem highByte_eq_iff (v w : Word) : highByte v = highByte w ↔ v.toNat / 256 = w.toNat / 256 := by
  rw [← BitVec.toNat_inj, highByte_toNat, highByte_toNat]

/-- The sign-extended sum is the integer sum with the signed offset, wrapped to 16 bits (R11, R133). -/
theorem branchTarget_toNat (off : Byte) (s : State) :
    ((branchTarget off s).toNat : Int) = ((s.pc.toNat : Int) + off.toInt) % 65536 := by
  have hsext : sext16 off = BitVec.ofInt 16 off.toInt := rfl
  rw [branchTarget, hsext, BitVec.toNat_add, BitVec.toNat_ofInt]
  omega

theorem branchTarget_samePage_iff (off : Byte) (s : State) :
    highByte (branchTarget off s) = highByte s.pc ↔
      ((s.pc.toNat : Int) + off.toInt) % 65536 / 256 = (s.pc.toNat : Int) / 256 := by
  rw [highByte_eq_iff, ← branchTarget_toNat]
  omega

theorem extraCycles_branch {d : Descriptor} {c : Cond} (s : State) (h : d.penalty = .branch c) :
    extraCycles d s =
      if Cond.holds c s.p then if highByte (branchTarget s.dec.op0 s) = highByte s.pc then 1 else 2 else 0 := by
  simp only [extraCycles, h]

/-- Settles O16: the two `if`s of `extraCycles_branch` are the three cases, and `branchTarget_samePage_iff` reads the
inner one over integers. -/
theorem branchPenaltyByTargetPage : Obligations.BranchPenaltyByTargetPage := by
  intro d c s hbranch
  refine ⟨fun hfails => ?_, fun hholds hsame => ?_, fun hholds hother => ?_⟩
  · simp [extraCycles_branch s hbranch, hfails]
  · rw [extraCycles_branch s hbranch, if_pos hholds, if_pos ((branchTarget_samePage_iff _ s).mpr hsame)]
  · rw [extraCycles_branch s hbranch, if_pos hholds, if_neg (mt (branchTarget_samePage_iff _ s).mp hother)]

end Sys2Proof.Machine
end

section
/-! The operand fetch by `cycle_index`, and what a tick of an instruction in flight leaves (spec/40_dispatcher.md R115,
R116). -/

namespace Sys2Proof.Machine

theorem fetchOperand_first {size : Nat} {s : State} (hc : s.dec.cycleIndex = 1) (hs : 1 < size) :
    s.fetchOperand size = { s with pc := s.pc + 1, dec := { s.dec with op0 := s.mem.read s.pc } } := by
  simp [State.fetchOperand, DecodeState.setOperand, hc, hs]

theorem fetchOperand_second {size : Nat} {s : State} (hc : s.dec.cycleIndex = 2) (hs : 2 < size) :
    s.fetchOperand size = { s with pc := s.pc + 1, dec := { s.dec with op1 := s.mem.read s.pc } } := by
  simp [State.fetchOperand, DecodeState.setOperand, hc, hs]

theorem fetchOperand_done {size : Nat} {s : State} (h : size ≤ s.dec.cycleIndex) : s.fetchOperand size = s :=
  if_neg h.not_gt

theorem fetchOperand_frame (size : Nat) (s : State) :
    s.fetchOperand size = { s with
      pc := (s.fetchOperand size).pc
      dec := { s.dec with op0 := (s.fetchOperand size).dec.op0, op1 := (s.fetchOperand size).dec.op1 } } := by
  unfold State.fetchOperand DecodeState.setOperand
  split
  · split <;> rfl
  · rfl

/-- After the operand fetch, a tick short of retirement writes the count and `extra` only (R116, R117). -/
theorem spendCycle_eq_fetchOperand (d : Descriptor) (s : State) :
    s.spendCycle d = { s.fetchOperand d.size with
      dec := { (s.fetchOperand d.size).dec with
        cycleIndex := s.dec.cycleIndex + 1
        extra := (s.spendCycle d).dec.extra } } := by
  rw [← fetchOperand_cycleIndex d.size s]
  unfold State.spendCycle State.latchExtra
  split <;> rfl

@[simp] theorem spendCycle_pc (d : Descriptor) (s : State) : (s.spendCycle d).pc = (s.fetchOperand d.size).pc := by
  rw [spendCycle_eq_fetchOperand]

@[simp] theorem spendCycle_op0 (d : Descriptor) (s : State) :
    (s.spendCycle d).dec.op0 = (s.fetchOperand d.size).dec.op0 := by
  rw [spendCycle_eq_fetchOperand]

@[simp] theorem spendCycle_op1 (d : Descriptor) (s : State) :
    (s.spendCycle d).dec.op1 = (s.fetchOperand d.size).dec.op1 := by
  rw [spendCycle_eq_fetchOperand]

/-- `spendCycle_frame` with the fields of the decode state that no such tick writes: the opcode byte, the entry kind
and `fetch_next` stay. -/
theorem spendCycle_dec_frame (d : Descriptor) (s : State) :
    s.spendCycle d = { s with
      pc := (s.spendCycle d).pc
      dec := { s.dec with
        op0 := (s.spendCycle d).dec.op0
        op1 := (s.spendCycle d).dec.op1
        cycleIndex := (s.spendCycle d).dec.cycleIndex
        extra := (s.spendCycle d).dec.extra } } := by
  conv_lhs => rw [spendCycle_eq_fetchOperand, fetchOperand_frame]
  simp

/-- Settles O20: `spendCycle_pc`, `spendCycle_op0` and `spendCycle_op1` leave the three cases of the operand fetch. -/
theorem operandFetchAndCycleCount : Obligations.OperandFetchAndCycleCount := by
  intro s d hflight _
  refine ⟨spendCycle_cycleIndex d s, fun hc hs => ?_, fun hc hs => ?_, fun hdone => ?_, spendCycle_dec_frame d s,
    tick_inFlight_wait hflight⟩
  · simp [fetchOperand_first hc hs]
  · simp [fetchOperand_second hc hs]
  · simp [fetchOperand_done hdone]

end Sys2Proof.Machine
end

section
/-! The N and Z contract over the value of a byte (spec/10_state.md R31). -/

namespace Sys2Proof.Machine

theorem Status.setNZ_eq_nzOf (v : Byte) (p : Status) : p.setNZ v = nzOf v p := by
  have hn : v.getLsbD 7 = decide (128 ≤ v.toNat) := BitVec.msb_eq_decide v
  have hz : (v == 0) = decide (v.toNat = 0) := decide_eq_decide.mpr BitVec.toNat_inj.symm
  rw [Status.setNZ, nzOf, hn, hz]

end Sys2Proof.Machine
end

section
/-! The operand value of a three-byte instruction, over its 16-bit operand (spec/40_dispatcher.md R130, R131). In the
other modes the operand value is a byte of the encoding, or is read at an address made of one, by definition. -/

namespace Sys2Proof.Machine

section
variable {i : Instr} {addr : Word} (hlow : i.op0 = lowByte addr) (hhigh : i.op1 = highByte addr)
include hlow hhigh

theorem operand_absolute (hmode : i.mode = .absolute) (s : State) : operand i s = s.mem.read addr := by
  simp [operand, operandValue, effectiveAddress, hmode, hlow, hhigh]

theorem operand_absoluteX (hmode : i.mode = .absoluteX) (s : State) :
    operand i s = s.mem.read (eaAbsoluteX addr s) := by
  simp [operand, operandValue, effectiveAddress, hmode, hlow, hhigh]

theorem operand_absoluteY (hmode : i.mode = .absoluteY) (s : State) :
    operand i s = s.mem.read (eaAbsoluteY addr s) := by
  simp [operand, operandValue, effectiveAddress, hmode, hlow, hhigh]

end

end Sys2Proof.Machine
end

section
/-! Loads: every form of a mnemonic loads its one register from the operand value (spec/41_load_store.md R150 to
R152). -/

namespace Sys2Proof.Machine

theorem exec_lda {i : Instr} (h : i.mnemonic = .lda) (s : State) : exec i s = .next (s.loadA (operand i s)) := by
  cases i <;> cases h
  case ldaImm | ldaZp | ldaZpX | ldaIndX | ldaIndY => rfl
  case ldaAbs addr => rw [operand_absolute (addr := addr)] <;> rfl
  case ldaAbsX addr => rw [operand_absoluteX (addr := addr)] <;> rfl
  case ldaAbsY addr => rw [operand_absoluteY (addr := addr)] <;> rfl

theorem exec_ldx {i : Instr} (h : i.mnemonic = .ldx) (s : State) : exec i s = .next (s.loadX (operand i s)) := by
  cases i <;> cases h
  case ldxImm | ldxZp | ldxZpY => rfl
  case ldxAbs addr => rw [operand_absolute (addr := addr)] <;> rfl
  case ldxAbsY addr => rw [operand_absoluteY (addr := addr)] <;> rfl

theorem exec_ldy {i : Instr} (h : i.mnemonic = .ldy) (s : State) : exec i s = .next (s.loadY (operand i s)) := by
  cases i <;> cases h
  case ldyImm | ldyZp | ldyZpX => rfl
  case ldyAbs addr => rw [operand_absolute (addr := addr)] <;> rfl
  case ldyAbsX addr => rw [operand_absoluteX (addr := addr)] <;> rfl

/-- Settles O28: the load of each mnemonic (`exec_lda`, `exec_ldx`, `exec_ldy`) with its flags over the byte's value;
the slots are read off the matrix. -/
theorem loadsWriteRegisterAndNZ : Obligations.LoadsWriteRegisterAndNZ := by
  refine ⟨fun i s => ⟨fun h => ?_, fun h => ?_, fun h => ?_⟩, by decide, by decide, by decide⟩
  · rw [exec_lda h, State.loadA_eq, Status.setNZ_eq_nzOf]
  · rw [exec_ldx h, State.loadX_eq, Status.setNZ_eq_nzOf]
  · rw [exec_ldy h, State.loadY_eq, Status.setNZ_eq_nzOf]

end Sys2Proof.Machine
end

section
/-! PHA, PLA and PLP at the stack slots of R65 (spec/42_transfer_stack.md R166, R168, R169). -/

namespace Sys2Proof.Machine

theorem exec_pha (s : State) : exec .pha s = .next (s.push s.a) := rfl

theorem exec_pla (s : State) : exec .pla s = .next (s.pull.2.loadA s.pull.1) := rfl

theorem exec_plp (s : State) : exec .plp s = .next (s.pull.2.setP (Status.unpack s.pull.1)) := rfl

/-- The slot a pull reads: SP is incremented modulo 256 before the page bit is set (R65). -/
theorem stackAddress_add_one_eq_ofNat (sp : Byte) :
    stackAddress (sp + 1) = BitVec.ofNat 16 (256 + (sp.toNat + 1) % 256) := by
  have hnext : (sp + 1).toNat = (sp.toNat + 1) % 256 := BitVec.toNat_add sp 1
  rw [stackAddress_eq_ofNat, hnext]

/-- Settles O31: the push and the two pulls (`State.push_eq`, `State.pull_eq`) with the stack slot over integers; PLA's
flags are those of a load, and PLP's are the bits of `Status.unpack`. The slots are read off the matrix. -/
theorem phaPlaPlpMoveStackBytes : Obligations.PhaPlaPlpMoveStackBytes := by
  refine ⟨fun s => ⟨?_, ?_, ?_⟩, by decide, by decide, by decide⟩
  · rw [exec_pha, State.push_eq, stackAddress_eq_ofNat]
  · rw [exec_pla, State.pull_eq, State.loadA_eq, Status.setNZ_eq_nzOf, stackAddress_add_one_eq_ofNat]
  · rw [exec_plp, State.pull_eq, stackAddress_add_one_eq_ofNat]
    rfl

end Sys2Proof.Machine
end

section
/-! AND, ORA and EOR in every addressing mode (spec/43_logic_arith_compare.md R180 to R182). -/

namespace Sys2Proof.Machine

/-- The bitwise operation of R180, R181 and R182; `none` for every other mnemonic. -/
def logicOp : Mnemonic → Option (Byte → Byte → Byte)
  | .and => some (· &&& ·)
  | .ora => some (· ||| ·)
  | .eor => some (· ^^^ ·)
  | _ => none

/-- A logic instruction loads A with the combination: an absolute operand is put together again from its two bytes,
and in the other modes `operand` reads the very byte that the arm reads. -/
theorem exec_logic {i : Instr} {f : Byte → Byte → Byte} (h : logicOp i.mnemonic = some f) (s : State) :
    exec i s = .next (s.loadA (f s.a (operand i s))) := by
  cases i <;> cases h
  case andAbs addr | oraAbs addr | eorAbs addr => rw [operand_absolute (addr := addr)] <;> rfl
  case andAbsX addr | oraAbsX addr | eorAbsX addr => rw [operand_absoluteX (addr := addr)] <;> rfl
  case andAbsY addr | oraAbsY addr | eorAbsY addr => rw [operand_absoluteY (addr := addr)] <;> rfl
  all_goals rfl

/-- The same over the mnemonic `m`, with the result and its flags written out. -/
theorem exec_logic_eq {i : Instr} {m : Mnemonic} {f : Byte → Byte → Byte} (s : State) (hf : logicOp m = some f)
    (h : i.mnemonic = m) :
    exec i s = .next { s with a := f s.a (operand i s), p := nzOf (f s.a (operand i s)) s.p } := by
  rw [exec_logic (h ▸ hf), State.loadA_eq, Status.setNZ_eq_nzOf]

/-- Settles O33: `exec_logic_eq` at the operation of each mnemonic; the slots are read off the matrix. -/
theorem logicWritesAccumulatorAndNZ : Obligations.LogicWritesAccumulatorAndNZ :=
  ⟨fun _ s => ⟨exec_logic_eq s rfl, exec_logic_eq s rfl, exec_logic_eq s rfl⟩, by decide, by decide, by decide⟩

end Sys2Proof.Machine
end

section
/-! The effective address of a three-byte instruction, over its 16-bit operand (spec/40_dispatcher.md R130). In the
zero-page modes it is made of the one operand byte, by definition. -/

namespace Sys2Proof.Machine

section
variable {i : Instr} {addr : Word} (hlow : i.op0 = lowByte addr) (hhigh : i.op1 = highByte addr)
include hlow hhigh

theorem ea_absolute (hmode : i.mode = .absolute) (s : State) : ea i s = addr := by
  simp [ea, effectiveAddress, hmode, hlow, hhigh]

theorem ea_absoluteX (hmode : i.mode = .absoluteX) (s : State) : ea i s = eaAbsoluteX addr s := by
  simp [ea, effectiveAddress, hmode, hlow, hhigh]

end

end Sys2Proof.Machine
end

section
/-! INC and DEC on the byte at EA, INX, DEX, INY and DEY on an index register (spec/44_shift_incdec.md R204 to R209). -/

namespace Sys2Proof.Machine

/-- What R204 and R205 do to the byte at EA; `none` for every other mnemonic. -/
def memoryStep : Mnemonic → Option (Byte → Byte)
  | .inc => some (· + 1)
  | .dec => some (· - 1)
  | _ => none

/-- An absolute address is put together again from its two bytes; in the zero-page modes `ea` is by definition the
address that the arm modifies. -/
theorem exec_memoryStep {i : Instr} {f : Byte → Byte} (h : memoryStep i.mnemonic = some f) (s : State) :
    exec i s = .next (s.modifyAt f (ea i s)) := by
  cases i <;> cases h
  case incZp | incZpX | decZp | decZpX => rfl
  case incAbs addr | decAbs addr => rw [ea_absolute (addr := addr)] <;> rfl
  case incAbsX addr | decAbsX addr => rw [ea_absoluteX (addr := addr)] <;> rfl

/-- The same over the mnemonic `m`, with the new byte and its flags written out. -/
theorem exec_memoryStep_eq {i : Instr} {m : Mnemonic} {f : Byte → Byte} (s : State) (hf : memoryStep m = some f)
    (h : i.mnemonic = m) :
    exec i s = .next { s with
      mem := s.mem.write (ea i s) (f (s.mem.read (ea i s)))
      p := nzOf (f (s.mem.read (ea i s))) s.p } := by
  rw [exec_memoryStep (h ▸ hf), State.modifyAt_eq, Status.setNZ_eq_nzOf]

/-- Settles O39: `exec_memoryStep_eq` at `· + 1` and at `· - 1`, each over integers with its wrap; the slots are read off
the matrix. -/
theorem incAndDecMemory : Obligations.IncAndDecMemory := by
  refine ⟨fun i s => ⟨fun h => ?_, fun h => ?_⟩, by decide, by decide⟩
  · rw [exec_memoryStep_eq s rfl h, byte_add_one_eq_ofNat]
  · rw [exec_memoryStep_eq s rfl h, byte_sub_one_eq_ofNat]

theorem exec_inx (s : State) : exec .inx s = .next (s.loadX (s.x + 1)) := rfl

theorem exec_dex (s : State) : exec .dex s = .next (s.loadX (s.x - 1)) := rfl

theorem exec_iny (s : State) : exec .iny s = .next (s.loadY (s.y + 1)) := rfl

theorem exec_dey (s : State) : exec .dey s = .next (s.loadY (s.y - 1)) := rfl

/-- Settles O40: each loads its register with the neighbouring value (`State.loadX_eq`, `State.loadY_eq`), which the
two integer forms give with its wrap; the slots are read off the matrix. -/
theorem indexRegistersStep : Obligations.IndexRegistersStep := by
  refine ⟨fun s => ⟨?_, ?_, ?_, ?_⟩, by decide, by decide, by decide, by decide⟩
  · rw [exec_inx, State.loadX_eq, Status.setNZ_eq_nzOf, byte_add_one_eq_ofNat]
  · rw [exec_dex, State.loadX_eq, Status.setNZ_eq_nzOf, byte_sub_one_eq_ofNat]
  · rw [exec_iny, State.loadY_eq, Status.setNZ_eq_nzOf, byte_add_one_eq_ofNat]
  · rw [exec_dey, State.loadY_eq, Status.setNZ_eq_nzOf, byte_sub_one_eq_ofNat]

end Sys2Proof.Machine
end

section
/-! JSR, RTS and RTI at the stack slots, over integers (spec/45_control.md R234, R235, R237). -/

namespace Sys2Proof.Machine

/-- Moving SP by `k` wraps modulo 256 before the page bit is set (R64, R65); a decrement is the move by 255. -/
theorem stackAddress_add_ofNat (sp : Byte) (k : Nat) :
    stackAddress (sp + BitVec.ofNat 8 k) = BitVec.ofNat 16 (256 + (sp.toNat + k) % 256) := by
  rw [stackAddress_eq_ofNat, BitVec.toNat_add, BitVec.toNat_ofNat, Nat.add_mod_mod]

theorem lowByte_eq_ofNat (w : Word) : lowByte w = BitVec.ofNat 8 (w.toNat % 256) := by
  rw [← lowByte_toNat, BitVec.ofNat_toNat, BitVec.setWidth_eq]

theorem highByte_eq_ofNat (w : Word) : highByte w = BitVec.ofNat 8 (w.toNat / 256) := by
  rw [← highByte_toNat, BitVec.ofNat_toNat, BitVec.setWidth_eq]

/-- The +1 of RTS carries into the high byte (R235). -/
theorem combine_add_one_eq_ofNat (lo hi : Byte) :
    combine lo hi + 1 = BitVec.ofNat 16 ((lo.toNat + 256 * hi.toNat + 1) % 65536) := by
  rw [← combine_toNat]
  bv_omega

theorem word_sub_one_toNat (w : Word) : (w - 1).toNat = (w.toNat + 65535) % 65536 := by
  bv_omega

theorem exec_jsr (addr : Word) (s : State) :
    exec (.jsr addr) s = .next ((s.pushWord (s.pc - 1)).setPC addr) := rfl

theorem exec_rts (s : State) : exec .rts s = .next (s.pullWord.2.setPC (s.pullWord.1 + 1)) := rfl

theorem exec_rti (s : State) : exec .rti s = .next s.returnFromHandler := rfl

/-- JSR's two pushes and its jump as one record (`State.pushWord_eq`), the slots written as moves of SP. -/
theorem exec_jsr_eq (addr : Word) (s : State) :
    exec (.jsr addr) s = .next { s with
      mem := (s.mem.write (stackAddress (s.sp + BitVec.ofNat 8 0)) (highByte (s.pc - 1))).write
        (stackAddress (s.sp + BitVec.ofNat 8 255)) (lowByte (s.pc - 1))
      sp := s.sp - 2
      pc := addr } := by
  have hfirst : s.sp + BitVec.ofNat 8 0 = s.sp := BitVec.add_zero s.sp
  have hsecond : s.sp + BitVec.ofNat 8 255 = s.sp - 1 := (BitVec.sub_eq_add_neg s.sp 1).symm
  have hsp : s.sp - 1 - 1 = s.sp - 2 := sub_sub s.sp 1 1
  rw [exec_jsr, State.pushWord_eq, hfirst, hsecond, hsp]
  rfl

/-- RTS's two pulls and its jump as one record (`State.pullWord_eq`), the slots written as moves of SP. -/
theorem exec_rts_eq (s : State) :
    exec .rts s = .next { s with
      sp := s.sp + 2
      pc := combine (s.mem.read (stackAddress (s.sp + BitVec.ofNat 8 1)))
        (s.mem.read (stackAddress (s.sp + BitVec.ofNat 8 2))) + 1 } := by
  have hsp : s.sp + 1 + 1 = s.sp + 2 := add_assoc s.sp 1 1
  rw [exec_rts, State.pullWord_eq, hsp]
  rfl

/-- Settles O44: `exec_jsr_eq` and `exec_rts_eq` with the slots, the pushed bytes and the sum over integers; the slots
of the matrix are read off it. -/
theorem jsrAndRts : Obligations.JsrAndRts := by
  refine ⟨fun s addr => ⟨?_, ?_⟩, by decide, by decide⟩
  · rw [exec_jsr_eq, stackAddress_add_ofNat, stackAddress_add_ofNat, highByte_eq_ofNat, lowByte_eq_ofNat,
      word_sub_one_toNat]
  · rw [exec_rts_eq, combine_add_one_eq_ofNat, stackAddress_add_ofNat, stackAddress_add_ofNat]

/-- Settles O46: the three pulls of `State.returnFromHandler_eq`, with SP's moves added up; the flags are the bits of
`Status.unpack`, and the slot is read off the matrix. -/
theorem rtiRestoresStatusAndPC : Obligations.RtiRestoresStatusAndPC := by
  refine ⟨fun s => ?_, by decide⟩
  have htwo : s.sp + 1 + 1 = s.sp + 2 := add_assoc s.sp 1 1
  have hthree : s.sp + 2 + 1 = s.sp + 3 := add_assoc s.sp 2 1
  rw [exec_rti, State.returnFromHandler_eq, htwo, hthree]
  rfl

end Sys2Proof.Machine
end

section
/-! NOP (spec/46_flags_nop.md R257). -/

namespace Sys2Proof.Machine

theorem exec_nop (s : State) : exec .nop s = .next s := rfl

/-- Settles O49: NOP answers its own state (`exec_nop`); its one slot is read off the matrix. -/
theorem nopChangesNothing : Obligations.NopChangesNothing :=
  ⟨exec_nop, by decide⟩

end Sys2Proof.Machine
end

section
/-! An NMI request and the boundary that takes it (spec/60_exceptions.md R282). -/

namespace Sys2Proof.Machine

/-- A latched NMI comes first at a boundary (R113). -/
theorem boundaryTick_nmi {s : State} (h : s.nmiPending = true) :
    s.boundaryTick = ({ s with nmiPending := false }).acceptInterrupt .nmi :=
  if_pos h

theorem tick_boundary_nmi {s : State} (hs : s.AtBoundary) (hnmi : s.nmiPending = true) :
    tick s = .next (({ s with nmiPending := false }).acceptInterrupt .nmi) := by
  obtain ⟨hrun, hdec⟩ := hs
  have hfetch : s.dec.fetchNext = true := congrArg DecodeState.fetchNext hdec
  rw [tick_boundary hrun hfetch, boundaryTick_nmi hnmi]

/-- Settles O25: the request sets the latch without reading I, and a boundary with the latch set takes the NMI
(`tick_boundary_nmi`); setting the latch leaves a boundary a boundary. -/
theorem nmiCannotBeMasked : Obligations.NmiCannotBeMasked := by
  intro s hreset
  refine ⟨{ s with nmiPending := true }, applyAction_requestInterrupt .nmi hreset, rfl,
    fun b hb hnmi => ⟨_, tick_boundary_nmi hb hnmi, rfl, rfl⟩, fun hs => ?_⟩
  have ht : State.AtBoundary { s with nmiPending := true } := hs
  exact ⟨_, tick_boundary_nmi ht rfl, rfl⟩

end Sys2Proof.Machine
end

section
/-! An instruction in flight and the interrupt latches (spec/60_exceptions.md R288): the execute action sees neither the
decode state nor the latches, and the cycles before it do not see the latches. -/

namespace Sys2Proof.Machine

/-- The state with the decode state and the two latches replaced: what the dispatcher keeps and no instruction's meaning
speaks of. -/
def State.withDispatch (dec : DecodeState) (nmi irq : Bool) (s : State) : State :=
  { s with dec := dec, nmiPending := nmi, irqPending := irq }

section
variable (dec : DecodeState) (nmi irq : Bool)

theorem State.branchIf_withDispatch (c : Cond) (off : Byte) (s : State) :
    (s.withDispatch dec nmi irq).branchIf c off = (s.branchIf c off).withDispatch dec nmi irq := by
  rw [State.branchIf_eq, State.branchIf_eq]
  rfl

theorem unlessDecimal_addToA_withDispatch (opcode : Byte) (size : Word) (m : Byte) (s : State) :
    unlessDecimal opcode size (State.addToA m) (s.withDispatch dec nmi irq) =
      Result.map (State.withDispatch dec nmi irq) (unlessDecimal opcode size (State.addToA m) s) := by
  rw [unlessDecimal, unlessDecimal, apply_ite (Result.map _)]
  rfl

/-- Only the instructions that test a flag need an argument; every other meaning is a record update that leaves these
fields alone, so the two sides are the same record. -/
theorem exec_withDispatch (i : Instr) (s : State) :
    exec i (s.withDispatch dec nmi irq) = Result.map (State.withDispatch dec nmi irq) (exec i s) := by
  cases i
  case bpl | bmi | bvc | bvs | bcc | bcs | bne | beq =>
    exact congrArg Host.Outcome.next (State.branchIf_withDispatch dec nmi irq _ _ s)
  case adcImm | adcZp | adcZpX | adcAbs | adcAbsX | adcAbsY | adcIndX | adcIndY |
      sbcImm | sbcZp | sbcZpX | sbcAbs | sbcAbsX | sbcAbsY | sbcIndX | sbcIndY =>
    exact unlessDecimal_addToA_withDispatch dec nmi irq _ _ _ s
  all_goals rfl

end

/-- Replacing the decode state by itself changes nothing, so by `exec_withDispatch` the answer has it too. -/
theorem exec_dec {i : Instr} {s t : State} (h : exec i s = .next t) : t.dec = s.dec := by
  have hself : Result.map (State.withDispatch s.dec s.nmiPending s.irqPending) (exec i s) = exec i s :=
    (exec_withDispatch s.dec s.nmiPending s.irqPending i s).symm
  rw [h] at hself
  injection hself with ht
  rw [← ht]
  rfl

section
variable (nmi irq : Bool)

theorem exec_withLatches (i : Instr) (s : State) :
    exec i (s.withLatches nmi irq) = Result.map (State.withLatches nmi irq) (exec i s) := by
  have hs := exec_withDispatch s.dec nmi irq i s
  cases h : exec i s with
  | next t =>
    rw [h] at hs
    have hdec : t.withDispatch s.dec nmi irq = t.withLatches nmi irq := by rw [← exec_dec h]; rfl
    exact hs.trans (congrArg Host.Outcome.next hdec)
  | fault | refused => exact hs.trans (by rw [h]; rfl)

theorem retire_withLatches (i : Instr) (s : State) :
    retire i (s.withLatches nmi irq) = Result.map (State.withLatches nmi irq) (retire i s) := by
  rw [retire, exec_withLatches, retire]
  cases exec i s with
  | next t => exact congrArg Host.Outcome.next (apply_ite (State.withLatches nmi irq) _ t t.clearDecode).symm
  | fault | refused => rfl

theorem fetchOperand_withLatches (size : Nat) (s : State) :
    (s.withLatches nmi irq).fetchOperand size = (s.fetchOperand size).withLatches nmi irq := by
  rw [State.fetchOperand, State.fetchOperand, apply_ite (State.withLatches nmi irq)]
  rfl

theorem latchExtra_withLatches (d : Descriptor) (s : State) :
    (s.withLatches nmi irq).latchExtra d = (s.latchExtra d).withLatches nmi irq := by
  rw [State.latchExtra, State.latchExtra, apply_ite (State.withLatches nmi irq)]
  rfl

theorem spendCycle_withLatches (d : Descriptor) (s : State) :
    (s.withLatches nmi irq).spendCycle d = (s.spendCycle d).withLatches nmi irq := by
  rw [State.spendCycle, fetchOperand_withLatches]
  exact latchExtra_withLatches nmi irq d (s.fetchOperand d.size).countCycle

theorem tick_inFlight_withLatches {s : State} {d : Descriptor} (h : s.InFlight d) :
    tick (s.withLatches nmi irq) = Result.map (State.withLatches nmi irq) (tick s) := by
  have hlatched : (s.withLatches nmi irq).InFlight d := h
  rw [tick_inFlight hlatched, tick_inFlight h, spendCycle_withLatches, apply_ite (Result.map _), ← retire_withLatches]
  rfl

end

/-- No entry starts before a boundary: a tick that waits keeps the decode state's entry kind, and one that retires
clears it or, on a fatal error, leaves it (`exec_dec`). -/
theorem tick_inFlight_entryKind {s t : State} {d : Descriptor} (h : s.InFlight d) (ht : tick s = .next t) :
    t.dec.entryKind = none := by
  have ⟨_, _, hentry, _⟩ := h
  have hspent : (s.spendCycle d).dec.entryKind = none := (spendCycle_entryKind d s).trans hentry
  by_cases hr : s.retiresNow d
  · rw [tick_inFlight_retire h hr] at ht
    obtain ⟨u, hu, ⟨-, rfl⟩ | ⟨-, rfl⟩⟩ := retire_cases ht
    · rw [exec_dec hu, hspent]
    · rfl
  · rw [tick_inFlight_wait h hr] at ht
    injection ht with ht
    rw [← ht, hspent]

/-- Settles O27: `tick_inFlight_withLatches` and `tick_inFlight_entryKind`. -/
theorem inFlightInstructionIgnoresLatches : Obligations.InFlightInstructionIgnoresLatches :=
  fun _ _ nmi irq h => ⟨tick_inFlight_withLatches nmi irq h, fun _ => tick_inFlight_entryKind h⟩

end Sys2Proof.Machine
end

section
/-! The decoder and the encoder, slot by slot (spec/30_encoding.md R85, R87, R88, R92). -/

namespace Sys2Proof

/-- An operand byte that the instruction does not have makes no difference. -/
theorem build_of_size_one {opcode : Byte} {d : Descriptor} (h : descriptor opcode = some d) (hs : d.size = 1)
    (op0 op1 : Byte) : d.build op0 op1 = d.build 0 0 := by
  obtain ⟨-, -, hone, -⟩ := descriptor_law opcode d h op0 op1
  exact hone hs

theorem build_of_size_two {opcode : Byte} {d : Descriptor} (h : descriptor opcode = some d) (hs : d.size = 2)
    (op0 op1 : Byte) : d.build op0 op1 = d.build op0 0 := by
  obtain ⟨-, -, -, htwo, -⟩ := descriptor_law opcode d h op0 op1
  exact htwo hs

theorem build_mode {opcode : Byte} {d : Descriptor} (h : descriptor opcode = some d) (op0 op1 : Byte) :
    (d.build op0 op1).mode = d.mode := by
  obtain ⟨-, hmode, -⟩ := descriptor_law opcode d h op0 op1
  exact hmode

/-- Reading back as many bytes as the slot's size says. -/
theorem decode_take {opcode : Byte} {d : Descriptor} (h : descriptor opcode = some d) (op0 op1 : Byte)
    (rest : List Byte) : decode ([opcode, op0, op1].take d.size ++ rest) = .ok (d.build op0 op1, rest) := by
  obtain hs | hs | hs := descriptor_size h
  · simp [decode, h, hs, build_of_size_one h hs op0 op1]
  · simp [decode, h, hs, build_of_size_two h hs op0 op1]
  · simp [decode, h, hs]

/-- Three bytes hold every instruction. -/
theorem decode_three {opcode : Byte} {d : Descriptor} (h : descriptor opcode = some d) (op0 op1 : Byte) :
    decode [opcode, op0, op1] = .ok (d.build op0 op1, [opcode, op0, op1].drop d.size) := by
  have hall := decode_take h op0 op1 ([opcode, op0, op1].drop d.size)
  rwa [List.take_append_drop] at hall

/-- What bytes that decode are: the bytes of one slot, and the rest. -/
theorem decode_cases {bytes rest : List Byte} {i : Instr} (h : decode bytes = .ok (i, rest)) :
    ∃ opcode d op0 op1, descriptor opcode = some d ∧ i = d.build op0 op1 ∧
      bytes = [opcode, op0, op1].take d.size ++ rest := by
  unfold decode at h
  split at h
  · cases h
  · next opcode operands =>
    split at h
    · cases h
    · next d hd =>
      split at h
      · next hs =>
        cases h
        exact ⟨opcode, d, 0, 0, hd, rfl, by simp [hs]⟩
      · split at h
        · next hs =>
          split at h
          · next op0 _ =>
            cases h
            exact ⟨opcode, d, op0, 0, hd, rfl, by simp [hs]⟩
          · cases h
        · next hone htwo =>
          have hs : d.size = 3 := ((descriptor_size hd).resolve_left hone).resolve_left htwo
          split at h
          · next op0 op1 _ =>
            cases h
            exact ⟨opcode, d, op0, op1, hd, rfl, by simp [hs]⟩
          · cases h

namespace Laws.Slots

/-- The slot of every instruction, constructor by constructor. -/
theorem statement (i : Instr) : Statement i := by
  cases i
  exacts [ldaImm _, ldaZp _, ldaZpX _, ldaAbs _, ldaAbsX _, ldaAbsY _, ldaIndX _, ldaIndY _, ldxImm _, ldxZp _,
    ldxZpY _, ldxAbs _, ldxAbsY _, ldyImm _, ldyZp _, ldyZpX _, ldyAbs _, ldyAbsX _, staZp _, staZpX _, staAbs _,
    staAbsX _, staAbsY _, staIndX _, staIndY _, stxZp _, stxZpY _, stxAbs _, styZp _, styZpX _, styAbs _, tax, tay,
    txa, tya, tsx, txs, pha, php, pla, plp, andImm _, andZp _, andZpX _, andAbs _, andAbsX _, andAbsY _, andIndX _,
    andIndY _, oraImm _, oraZp _, oraZpX _, oraAbs _, oraAbsX _, oraAbsY _, oraIndX _, oraIndY _, eorImm _, eorZp _,
    eorZpX _, eorAbs _, eorAbsX _, eorAbsY _, eorIndX _, eorIndY _, bitZp _, bitAbs _, adcImm _, adcZp _, adcZpX _,
    adcAbs _, adcAbsX _, adcAbsY _, adcIndX _, adcIndY _, sbcImm _, sbcZp _, sbcZpX _, sbcAbs _, sbcAbsX _,
    sbcAbsY _, sbcIndX _, sbcIndY _, cmpImm _, cmpZp _, cmpZpX _, cmpAbs _, cmpAbsX _, cmpAbsY _, cmpIndX _,
    cmpIndY _, cpxImm _, cpxZp _, cpxAbs _, cpyImm _, cpyZp _, cpyAbs _, aslA, aslZp _, aslZpX _, aslAbs _,
    aslAbsX _, lsrA, lsrZp _, lsrZpX _, lsrAbs _, lsrAbsX _, rolA, rolZp _, rolZpX _, rolAbs _, rolAbsX _, rorA,
    rorZp _, rorZpX _, rorAbs _, rorAbsX _, incZp _, incZpX _, incAbs _, incAbsX _, decZp _, decZpX _, decAbs _,
    decAbsX _, inx, dex, iny, dey, bpl _, bmi _, bvc _, bvs _, bcc _, bcs _, bne _, beq _, jmpAbs _, jmpInd _,
    jsr _, rts, brk, rti, clc, sec, cli, sei, clv, cld, sed, nop]

end Laws.Slots

/-- Settles O1: the slot of `i` builds it back from its bytes (`Laws.Slots.statement`), and `decode_take` reads them. -/
theorem decodeOfEncodeIsTheInstruction : Obligations.DecodeOfEncodeIsTheInstruction := by
  intro i rest
  obtain ⟨d, hd, hbuild, hmode, hencode⟩ := Laws.Slots.statement i
  have hsize : i.size = d.size := congrArg Mode.size hmode.symm
  rw [hencode, hsize, decode_take hd, hbuild]

/-- Settles O2: bytes that decode are a slot's (`decode_cases`), and these are what `encode` gives for the instruction
that the slot builds. -/
theorem encodeOfDecodeIsTheBytes : Obligations.EncodeOfDecodeIsTheBytes := by
  intro bytes i rest h
  obtain ⟨opcode, d, op0, op1, hd, rfl, hbytes⟩ := decode_cases h
  rw [hbytes, encode_build hd]

end Sys2Proof
end

section
/-! The sizes written out in WellFormed.lean against the matrix that the decoder reads (spec/30_encoding.md R88,
R92). -/

namespace Sys2Proof

/-- The size of a slot; 0 for an empty one. -/
def slotSize (cell : Option Descriptor) : Nat := cell.elim 0 Descriptor.size

theorem sizeMatrix_eq_map : sizeMatrix = matrix.map (·.map slotSize) := rfl

theorem opcodeSize_eq_slotSize (opcode : Byte) : opcodeSize opcode = slotSize (descriptor opcode) := by
  have hempty : slotSize none = 0 := rfl
  rw [opcodeSize, descriptor, sizeMatrix_eq_map, ← List.map_nil (f := slotSize), List.getD_map, ← hempty,
    List.getD_map]

theorem opcodeSize_of_descriptor {opcode : Byte} {d : Descriptor} (h : descriptor opcode = some d) :
    opcodeSize opcode = d.size := by
  rw [opcodeSize_eq_slotSize, h]
  rfl

/-- The bytes of one slot and nothing else. -/
theorem wellFormed_iff (bytes : List Byte) :
    wellFormed bytes = true ↔
      ∃ opcode d op0 op1, descriptor opcode = some d ∧ bytes = [opcode, op0, op1].take d.size := by
  constructor
  · intro h
    cases bytes with
    | nil => cases h
    | cons opcode operands =>
      simp only [wellFormed, Bool.and_eq_true, bne_iff_ne, beq_iff_eq] at h
      obtain ⟨hvalid, hlength⟩ := h
      cases hd : descriptor opcode with
      | none => rw [opcodeSize_eq_slotSize, hd] at hvalid; exact absurd rfl hvalid
      | some d =>
        rw [opcodeSize_of_descriptor hd] at hlength
        refine ⟨opcode, d, operands.getD 0 0, operands.getD 1 0, hd, ?_⟩
        rw [← hlength]
        match operands, descriptor_size hd with
        | [], _ | [_], _ | [_, _], _ => rfl
        | _ :: _ :: _ :: _, hs => simp only [List.length_cons] at hlength; omega
  · rintro ⟨opcode, d, op0, op1, hd, rfl⟩
    obtain hs | hs | hs := descriptor_size hd <;> simp [wellFormed, opcodeSize_of_descriptor hd, hs]

/-- Settles O3: both sides say that the bytes are those of one slot (`wellFormed_iff`, `decode_cases`). -/
theorem wellFormedBytesAreOneWholeInstruction : Obligations.WellFormedBytesAreOneWholeInstruction := by
  intro bytes
  rw [wellFormed_iff]
  constructor
  · rintro ⟨opcode, d, op0, op1, hd, rfl⟩
    exact ⟨d.build op0 op1, by simpa using decode_take hd op0 op1 []⟩
  · rintro ⟨i, h⟩
    obtain ⟨opcode, d, op0, op1, hd, -, hbytes⟩ := decode_cases h
    exact ⟨opcode, d, op0, op1, hd, by rw [hbytes, List.append_nil]⟩

end Sys2Proof
end

section
/-! The execute action of the mnemonics with several forms, over their operand value and effective address
(spec/41_load_store.md, spec/43_logic_arith_compare.md, spec/44_shift_incdec.md, spec/45_control.md). -/

namespace Sys2Proof.Machine

theorem ea_absoluteY {i : Instr} {addr : Word} (hlow : i.op0 = lowByte addr) (hhigh : i.op1 = highByte addr)
    (hmode : i.mode = .absoluteY) (s : State) : ea i s = eaAbsoluteY addr s := by
  simp [ea, effectiveAddress, hmode, hlow, hhigh]

/-- ADC and SBC as one record (R184, R272): the sum, or with D = 1 the fatal error and nothing else. -/
def State.addUnlessDecimal (i : Instr) (m : Byte) (s : State) : State :=
  { s with
    a := if s.p.d then s.a else addByte s.a m s.p.c
    p := if s.p.d then s.p else s.p.setAdd s.a m
    halted := if s.p.d then true else s.halted
    fault := if s.p.d then some (.decimalModeUnsupported i.opcode (s.pc - BitVec.ofNat 16 i.size)) else s.fault }

/-- A shift of A or of the byte at EA as one record (R200 to R203). -/
def State.shiftOperand (f : Shifter) (i : Instr) (s : State) : State :=
  { s with
    a := if i.mode = .accumulator then (f (operand i s) s.p.c).1 else s.a
    mem := if i.mode = .accumulator then s.mem else s.mem.write (ea i s) (f (operand i s) s.p.c).1
    p := s.p.setNZC (f (operand i s) s.p.c).1 (f (operand i s) s.p.c).2 }

/-- A branch as one record (R220). -/
def State.branched (c : Cond) (off : Byte) (s : State) : State :=
  { s with pc := if Cond.holds c s.p then branchTarget off s else s.pc }

/-- The entry of a handler as one record (`State.enterHandler_eq`). -/
def State.handlerEntered (vector : Word) (stackedP : Byte) (s : State) : State :=
  { s with
    mem := s.entryMemory stackedP
    sp := s.sp - 1 - 1 - 1
    p := { s.p with i := true }
    pc := (s.entryMemory stackedP).readWord vector }

/-- The return from one as one record (`State.returnFromHandler_eq`). -/
def State.handlerLeft (s : State) : State :=
  { s with
    p := Status.unpack (s.mem.read (stackAddress (s.sp + 1)))
    sp := s.sp + 1 + 1 + 1
    pc := combine (s.mem.read (stackAddress (s.sp + 1 + 1))) (s.mem.read (stackAddress (s.sp + 1 + 1 + 1))) }

/-- Where JMP goes, by its mode (R231, R232). -/
def jumpAddress (i : Instr) (s : State) : Word :=
  if i.mode = .indirect then jumpTarget (combine i.op0 i.op1) s else combine i.op0 i.op1

theorem unlessDecimal_addToA_eq (i : Instr) (m : Byte) (s : State) :
    unlessDecimal i.opcode (BitVec.ofNat 16 i.size) (State.addToA m) s = .next (s.addUnlessDecimal i m) := by
  rw [unlessDecimal_eq, State.addToA_eq]
  unfold State.addUnlessDecimal
  split <;> rfl

theorem branchIf_eq_branched (c : Cond) (off : Byte) (s : State) : s.branchIf c off = s.branched c off :=
  State.branchIf_eq c off s

theorem shiftA_eq_shiftOperand {i : Instr} (f : Shifter) (hmode : i.mode = .accumulator) (s : State) :
    s.shiftA f = s.shiftOperand f i := by
  have hoperand : operand i s = s.a := by simp [operand, operandValue, hmode]
  simp [State.shiftA_eq, State.shiftOperand, hmode, hoperand]

/-- The modes in which a shift works on memory (R200 to R203). -/
theorem shiftAt_eq_shiftOperand {i : Instr} (f : Shifter)
    (hmode : i.mode ∈ [Mode.zeroPage, .zeroPageX, .absolute, .absoluteX]) (s : State) :
    s.shiftAt f (ea i s) = s.shiftOperand f i := by
  obtain ⟨hacc, hread⟩ : i.mode ≠ .accumulator ∧ operand i s = s.mem.read (ea i s) := by
    simp only [List.mem_cons, List.not_mem_nil, or_false] at hmode
    obtain h | h | h | h := hmode <;> simp [operand, operandValue, ea, h]
  simp [State.shiftAt_eq, State.shiftOperand, hacc, hread]

/-- What ADC and SBC add to A for an operand value (R184, R185); `none` for every other mnemonic. -/
def addend : Mnemonic → Option (Byte → Byte)
  | .adc => some fun m => m
  | .sbc => some fun m => ~~~m
  | _ => none

theorem exec_addition {i : Instr} {f : Byte → Byte} (h : addend i.mnemonic = some f) (s : State) :
    exec i s = .next (s.addUnlessDecimal i (f (operand i s))) := by
  rw [← unlessDecimal_addToA_eq]
  cases i <;> cases h
  case adcAbs addr | sbcAbs addr => rw [operand_absolute (addr := addr)] <;> rfl
  case adcAbsX addr | sbcAbsX addr => rw [operand_absoluteX (addr := addr)] <;> rfl
  case adcAbsY addr | sbcAbsY addr => rw [operand_absoluteY (addr := addr)] <;> rfl
  all_goals rfl

/-- The shifter of R200 to R203; `none` for every other mnemonic. -/
def shifter : Mnemonic → Option Shifter
  | .asl => some aslByte
  | .lsr => some lsrByte
  | .rol => some rolByte
  | .ror => some rorByte
  | _ => none

theorem exec_shift {i : Instr} {f : Shifter} (h : shifter i.mnemonic = some f) (s : State) :
    exec i s = .next (s.shiftOperand f i) := by
  cases i <;> cases h
  case aslA | lsrA | rolA | rorA => exact congrArg Host.Outcome.next (shiftA_eq_shiftOperand _ rfl s)
  all_goals rw [← shiftAt_eq_shiftOperand _ (by simp [Instr.mode])]
  case aslAbs addr | lsrAbs addr | rolAbs addr | rorAbs addr => rw [ea_absolute (addr := addr)] <;> rfl
  case aslAbsX addr | lsrAbsX addr | rolAbsX addr | rorAbsX addr => rw [ea_absoluteX (addr := addr)] <;> rfl
  all_goals rfl

/-- The register a store writes to memory (R153 to R155); `none` for every other mnemonic. -/
def storedRegister : Mnemonic → Option (State → Byte)
  | .sta => some State.a
  | .stx => some State.x
  | .sty => some State.y
  | _ => none

theorem exec_store {i : Instr} {r : State → Byte} (h : storedRegister i.mnemonic = some r) (s : State) :
    exec i s = .next (s.store (ea i s) (r s)) := by
  cases i <;> cases h
  case staAbs addr | stxAbs addr | styAbs addr => rw [ea_absolute (addr := addr)] <;> rfl
  case staAbsX addr => rw [ea_absoluteX (addr := addr)] <;> rfl
  case staAbsY addr => rw [ea_absoluteY (addr := addr)] <;> rfl
  all_goals rfl

/-- The register a comparison reads (R186 to R188); `none` for every other mnemonic. -/
def comparedRegister : Mnemonic → Option (State → Byte)
  | .cmp => some State.a
  | .cpx => some State.x
  | .cpy => some State.y
  | _ => none

theorem exec_compare {i : Instr} {r : State → Byte} (h : comparedRegister i.mnemonic = some r) (s : State) :
    exec i s = .next (s.compare (r s) (operand i s)) := by
  cases i <;> cases h
  case cmpAbs addr | cpxAbs addr | cpyAbs addr => rw [operand_absolute (addr := addr)] <;> rfl
  case cmpAbsX addr => rw [operand_absoluteX (addr := addr)] <;> rfl
  case cmpAbsY addr => rw [operand_absoluteY (addr := addr)] <;> rfl
  all_goals rfl

theorem exec_bit {i : Instr} (h : i.mnemonic = .bit) (s : State) : exec i s = .next (s.testBits (operand i s)) := by
  cases i <;> cases h
  case bitAbs addr => rw [operand_absolute (addr := addr)] <;> rfl
  case bitZp => rfl

/-- The condition of a branch (R221 to R228); `none` for every other mnemonic. -/
def branchCond : Mnemonic → Option Cond
  | .bpl => some .pl
  | .bmi => some .mi
  | .bvc => some .vc
  | .bvs => some .vs
  | .bcc => some .cc
  | .bcs => some .cs
  | .bne => some .ne
  | .beq => some .eq
  | _ => none

theorem exec_branch {i : Instr} {c : Cond} (h : branchCond i.mnemonic = some c) (s : State) :
    exec i s = .next (s.branched c i.op0) := by
  rw [← branchIf_eq_branched]
  cases i <;> cases h <;> rfl

theorem exec_jmp {i : Instr} (h : i.mnemonic = .jmp) (s : State) : exec i s = .next (s.setPC (jumpAddress i s)) := by
  cases i <;> cases h
  case jmpAbs addr => exact congrArg (fun w => Host.Outcome.next (s.setPC w)) (combine_low_high addr).symm
  case jmpInd addr =>
    exact congrArg (fun w => Host.Outcome.next (s.setPC (jumpTarget w s))) (combine_low_high addr).symm

end Sys2Proof.Machine
end

section
/-! The execute action of every instruction by its mnemonic: the one case split over the 151 constructors. -/

namespace Sys2Proof.Machine

/-- The state after the execute action, by mnemonic. -/
def effect (i : Instr) (s : State) : State :=
  match i.mnemonic with
  | .lda => s.loadA (operand i s)
  | .ldx => s.loadX (operand i s)
  | .ldy => s.loadY (operand i s)
  | .sta => s.store (ea i s) s.a
  | .stx => s.store (ea i s) s.x
  | .sty => s.store (ea i s) s.y
  | .tax => s.loadX s.a
  | .tay => s.loadY s.a
  | .txa => s.loadA s.x
  | .tya => s.loadA s.y
  | .tsx => s.loadX s.sp
  | .txs => s.setSP s.x
  | .pha => s.push s.a
  | .php => s.push s.p.stackedByProgram
  | .pla => s.pull.2.loadA s.pull.1
  | .plp => s.pull.2.setP (Status.unpack s.pull.1)
  | .and => s.loadA (s.a &&& operand i s)
  | .ora => s.loadA (s.a ||| operand i s)
  | .eor => s.loadA (s.a ^^^ operand i s)
  | .bit => s.testBits (operand i s)
  | .adc => s.addUnlessDecimal i (operand i s)
  | .sbc => s.addUnlessDecimal i (~~~operand i s)
  | .cmp => s.compare s.a (operand i s)
  | .cpx => s.compare s.x (operand i s)
  | .cpy => s.compare s.y (operand i s)
  | .asl => s.shiftOperand aslByte i
  | .lsr => s.shiftOperand lsrByte i
  | .rol => s.shiftOperand rolByte i
  | .ror => s.shiftOperand rorByte i
  | .inc => s.modifyAt (· + 1) (ea i s)
  | .dec => s.modifyAt (· - 1) (ea i s)
  | .inx => s.loadX (s.x + 1)
  | .dex => s.loadX (s.x - 1)
  | .iny => s.loadY (s.y + 1)
  | .dey => s.loadY (s.y - 1)
  | .bpl => s.branched .pl i.op0
  | .bmi => s.branched .mi i.op0
  | .bvc => s.branched .vc i.op0
  | .bvs => s.branched .vs i.op0
  | .bcc => s.branched .cc i.op0
  | .bcs => s.branched .cs i.op0
  | .bne => s.branched .ne i.op0
  | .beq => s.branched .eq i.op0
  | .jmp => s.setPC (jumpAddress i s)
  | .jsr => (s.pushWord (s.pc - 1)).setPC (combine i.op0 i.op1)
  | .rts => s.pullWord.2.setPC (s.pullWord.1 + 1)
  | .brk => (s.setPC (s.pc + 1)).handlerEntered irqVector s.p.stackedByProgram
  | .rti => s.handlerLeft
  | .clc => s.setP { s.p with c := false }
  | .sec => s.setP { s.p with c := true }
  | .cli => s.setP { s.p with i := false }
  | .sei => s.setP { s.p with i := true }
  | .clv => s.setP { s.p with v := false }
  | .cld => s.setP { s.p with d := false }
  | .sed => s.raise (.decimalModeUnsupported 0xF8 (s.pc - 1))
  | .nop => s

/-- The mnemonics with several forms have their lemmas above; every other arm is its line of `effect` by definition. -/
theorem exec_eq_effect (i : Instr) (s : State) : exec i s = .next (effect i s) := by
  cases i
  case ldaAbs | ldaAbsX | ldaAbsY => exact exec_lda rfl s
  case ldxAbs | ldxAbsY => exact exec_ldx rfl s
  case ldyAbs | ldyAbsX => exact exec_ldy rfl s
  case staAbs | staAbsX | staAbsY => exact exec_store (r := State.a) rfl s
  case stxAbs => exact exec_store (r := State.x) rfl s
  case styAbs => exact exec_store (r := State.y) rfl s
  case andAbs | andAbsX | andAbsY => exact exec_logic (f := (· &&& ·)) rfl s
  case oraAbs | oraAbsX | oraAbsY => exact exec_logic (f := (· ||| ·)) rfl s
  case eorAbs | eorAbsX | eorAbsY => exact exec_logic (f := (· ^^^ ·)) rfl s
  case bitAbs => exact exec_bit rfl s
  case adcImm | adcZp | adcZpX | adcAbs | adcAbsX | adcAbsY | adcIndX | adcIndY =>
    exact exec_addition (f := fun m => m) rfl s
  case sbcImm | sbcZp | sbcZpX | sbcAbs | sbcAbsX | sbcAbsY | sbcIndX | sbcIndY =>
    exact exec_addition (f := fun m => ~~~m) rfl s
  case cmpAbs | cmpAbsX | cmpAbsY => exact exec_compare (r := State.a) rfl s
  case cpxAbs => exact exec_compare (r := State.x) rfl s
  case cpyAbs => exact exec_compare (r := State.y) rfl s
  case aslA | aslZp | aslZpX | aslAbs | aslAbsX => exact exec_shift (f := aslByte) rfl s
  case lsrA | lsrZp | lsrZpX | lsrAbs | lsrAbsX => exact exec_shift (f := lsrByte) rfl s
  case rolA | rolZp | rolZpX | rolAbs | rolAbsX => exact exec_shift (f := rolByte) rfl s
  case rorA | rorZp | rorZpX | rorAbs | rorAbsX => exact exec_shift (f := rorByte) rfl s
  case incAbs | incAbsX => exact exec_memoryStep (f := (· + 1)) rfl s
  case decAbs | decAbsX => exact exec_memoryStep (f := (· - 1)) rfl s
  case bpl => exact exec_branch (c := .pl) rfl s
  case bmi => exact exec_branch (c := .mi) rfl s
  case bvc => exact exec_branch (c := .vc) rfl s
  case bvs => exact exec_branch (c := .vs) rfl s
  case bcc => exact exec_branch (c := .cc) rfl s
  case bcs => exact exec_branch (c := .cs) rfl s
  case bne => exact exec_branch (c := .ne) rfl s
  case beq => exact exec_branch (c := .eq) rfl s
  case jmpAbs | jmpInd => exact exec_jmp rfl s
  case jsr addr =>
    exact congrArg (fun w => Host.Outcome.next ((s.pushWord (s.pc - 1)).setPC w)) (combine_low_high addr).symm
  case brk => exact congrArg Host.Outcome.next (State.enterHandler_eq irqVector _ (s.setPC (s.pc + 1)))
  case rti => exact congrArg Host.Outcome.next (State.returnFromHandler_eq s)
  all_goals rfl

end Sys2Proof.Machine
end

section
/-! Stores, transfers, PHP and the flag instructions (spec/41_load_store.md R153 to R155, spec/42_transfer_stack.md R160
to R167, spec/46_flags_nop.md R250 to R256). -/

namespace Sys2Proof.Machine

/-- Settles O29: `exec_store` at the register of each mnemonic; the slots are read off the matrix. -/
theorem storesWriteOneByte : Obligations.StoresWriteOneByte := by
  refine ⟨fun i s => ⟨fun h => ?_, fun h => ?_, fun h => ?_⟩, by decide, by decide, by decide⟩
  · exact exec_store (r := State.a) (by rw [h]; rfl) s
  · exact exec_store (r := State.x) (by rw [h]; rfl) s
  · exact exec_store (r := State.y) (by rw [h]; rfl) s

theorem exec_tax (s : State) : exec .tax s = .next (s.loadX s.a) := rfl

theorem exec_tay (s : State) : exec .tay s = .next (s.loadY s.a) := rfl

theorem exec_txa (s : State) : exec .txa s = .next (s.loadA s.x) := rfl

theorem exec_tya (s : State) : exec .tya s = .next (s.loadA s.y) := rfl

theorem exec_tsx (s : State) : exec .tsx s = .next (s.loadX s.sp) := rfl

theorem exec_txs (s : State) : exec .txs s = .next (s.setSP s.x) := rfl

/-- Settles O30: five of the transfers load their register from another (`State.loadA_eq`, `State.loadX_eq`,
`State.loadY_eq`), and TXS sets SP alone; the slots are read off the matrix. -/
theorem transfersMoveAByte : Obligations.TransfersMoveAByte := by
  refine ⟨fun s => ⟨?_, ?_, ?_, ?_, ?_, exec_txs s⟩, by decide, by decide, by decide, by decide, by decide, by decide⟩
  · rw [exec_tax, State.loadX_eq, Status.setNZ_eq_nzOf]
  · rw [exec_tay, State.loadY_eq, Status.setNZ_eq_nzOf]
  · rw [exec_txa, State.loadA_eq, Status.setNZ_eq_nzOf]
  · rw [exec_tya, State.loadA_eq, Status.setNZ_eq_nzOf]
  · rw [exec_tsx, State.loadX_eq, Status.setNZ_eq_nzOf]

theorem exec_php (s : State) : exec .php s = .next (s.push s.p.stackedByProgram) := rfl

/-- Settles O32: one push (`State.push_eq`) of the copy of P with bits 5 and 4 set; the slot is read off the matrix. -/
theorem phpPushesStatusWithBreakSet : Obligations.PhpPushesStatusWithBreakSet := by
  refine ⟨fun s => ?_, by decide⟩
  rw [exec_php, State.push_eq]
  rfl

theorem exec_clc (s : State) : exec .clc s = .next (s.setP { s.p with c := false }) := rfl

theorem exec_sec (s : State) : exec .sec s = .next (s.setP { s.p with c := true }) := rfl

theorem exec_cli (s : State) : exec .cli s = .next (s.setP { s.p with i := false }) := rfl

theorem exec_sei (s : State) : exec .sei s = .next (s.setP { s.p with i := true }) := rfl

theorem exec_clv (s : State) : exec .clv s = .next (s.setP { s.p with v := false }) := rfl

theorem exec_cld (s : State) : exec .cld s = .next (s.setP { s.p with d := false }) := rfl

/-- Settles O47: each sets P with its one flag written; the slots are read off the matrix. -/
theorem flagInstructionsWriteOneFlag : Obligations.FlagInstructionsWriteOneFlag :=
  ⟨fun s => ⟨exec_clc s, exec_sec s, exec_cli s, exec_sei s, exec_clv s, exec_cld s⟩,
    by decide, by decide, by decide, by decide, by decide, by decide⟩

theorem exec_sed (s : State) : exec .sed s = .next (s.raise (.decimalModeUnsupported 0xF8 (s.pc - 1))) := rfl

/-- Settles O48: SED raises without reading D (`exec_sed`); the slot is read off the matrix. -/
theorem sedHaltsTheCore : Obligations.SedHaltsTheCore :=
  ⟨exec_sed, by decide⟩

end Sys2Proof.Machine
end

section
/-! BIT and the comparisons, over integers (spec/43_logic_arith_compare.md R183, R186 to R188). -/

namespace Sys2Proof.Machine

theorem byte_bit7_eq_decide (v : Byte) : v.getLsbD 7 = decide (128 ≤ v.toNat) := BitVec.msb_eq_decide v

/-- Settles O34: `exec_bit`, with bit 7 of the operand over its value; the slots are read off the matrix. -/
theorem bitWritesThreeFlags : Obligations.BitWritesThreeFlags := by
  refine ⟨fun i s h => ?_, by decide⟩
  rw [exec_bit h, State.testBits_eq, Status.setBit, byte_bit7_eq_decide]
  rfl

/-- The three flags of a comparison over integers: Z is equality, since the difference wraps to 0 only then. -/
theorem Status.setCompare_eq (reg m : Byte) (p : Status) :
    p.setCompare reg m = { p with
      c := decide (m.toNat ≤ reg.toNat)
      z := decide (reg = m)
      n := decide (128 ≤ (reg.toNat + 256 - m.toNat) % 256) } := by
  have hdiff : (reg - m).toNat = (reg.toNat + 256 - m.toNat) % 256 := by bv_omega
  have hzero : (reg - m == 0) = decide (reg = m) := decide_eq_decide.mpr sub_eq_zero
  rw [Status.setCompare, Status.setNZC, byte_bit7_eq_decide, hdiff, hzero]

theorem exec_compare_eq {i : Instr} {m : Mnemonic} {r : State → Byte} (s : State) (hr : comparedRegister m = some r)
    (h : i.mnemonic = m) :
    exec i s = .next { s with p := { s.p with
      c := decide ((operand i s).toNat ≤ (r s).toNat)
      z := decide (r s = operand i s)
      n := decide (128 ≤ ((r s).toNat + 256 - (operand i s).toNat) % 256) } } := by
  rw [exec_compare (h ▸ hr), State.compare_eq, Status.setCompare_eq]

/-- Settles O37: `exec_compare_eq` at the register of each mnemonic; the slots are read off the matrix. -/
theorem comparesWriteThreeFlags : Obligations.ComparesWriteThreeFlags :=
  ⟨fun _ s => ⟨exec_compare_eq s rfl, exec_compare_eq s rfl, exec_compare_eq s rfl⟩, by decide, by decide, by decide⟩

end Sys2Proof.Machine
end

section
/-! ADC and SBC, over integers (spec/43_logic_arith_compare.md R184, R185). -/

namespace Sys2Proof.Machine

theorem addByte_toNat (a m : Byte) (c : Bool) : (addByte a m c).toNat = (a.toNat + m.toNat + c.toNat) % 256 :=
  BitVec.toNat_ofNat _ _

/-- Masking with 0x80 keeps the sign bit alone. -/
theorem and_0x80_ne_zero_eq_msb (v : Byte) : (v &&& 0x80 != 0) = v.msb := by
  have hmask : v &&& 0x80 = if v.getLsbD 7 then 0x80 else 0 := BitVec.and_twoPow v 7
  have hmsb : v.msb = v.getLsbD 7 := rfl
  rw [hmask, hmsb]
  cases v.getLsbD 7 <;> rfl

theorem byte_beq_zero_eq_decide (v : Byte) : (v == 0) = decide (v.toNat = 0) :=
  decide_eq_decide.mpr BitVec.toNat_inj.symm

/-- `((A ^ r) & (M ^ r) & 0x80) != 0` compares signs (R33). -/
theorem addOverflow_eq_msb (a m : Byte) (c : Bool) :
    addOverflow a m c = ((a.msb ^^ (addByte a m c).msb) && (m.msb ^^ (addByte a m c).msb)) := by
  rw [addOverflow, and_0x80_ne_zero_eq_msb, BitVec.msb_and, BitVec.msb_xor, BitVec.msb_xor]

/-- The sign of the result differs from both signs exactly when the signed sum leaves the range of a byte. -/
theorem addOverflow_eq_decide (a m : Byte) (c : Bool) :
    addOverflow a m c =
      decide (a.toInt + m.toInt + (c.toNat : Int) < -128 ∨ 127 < a.toInt + m.toInt + (c.toNat : Int)) := by
  have hr := addByte_toNat a m c
  have hc := c.toNat_le
  have ha := a.isLt
  have hm := m.isLt
  rw [addOverflow_eq_msb, Bool.eq_iff_iff]
  simp only [BitVec.msb_eq_decide, BitVec.toInt_eq_toNat_cond, Bool.and_eq_true, bne_iff_ne, ne_eq, decide_eq_decide,
    decide_eq_true_eq]
  omega

/-- The four flags of an addition over integers (R31 to R33). -/
theorem Status.setAdd_eq (a m : Byte) (p : Status) :
    p.setAdd a m = { p with
      n := decide (128 ≤ (a.toNat + m.toNat + p.c.toNat) % 256)
      v := decide (a.toInt + m.toInt + (p.c.toNat : Int) < -128 ∨ 127 < a.toInt + m.toInt + (p.c.toNat : Int))
      z := decide ((a.toNat + m.toNat + p.c.toNat) % 256 = 0)
      c := decide (255 < a.toNat + m.toNat + p.c.toNat) } := by
  rw [Status.setAdd, byte_bit7_eq_decide, byte_beq_zero_eq_decide, addByte_toNat, addOverflow_eq_decide]
  rfl

theorem addUnlessDecimal_of_decimal {s : State} (h : s.p.d = true) (i : Instr) (m : Byte) :
    s.addUnlessDecimal i m = { s with
      halted := true
      fault := some (.decimalModeUnsupported i.opcode (s.pc - BitVec.ofNat 16 i.size)) } := by
  simp [State.addUnlessDecimal, h]

theorem addUnlessDecimal_of_binary {s : State} (h : s.p.d = false) (i : Instr) (m : Byte) :
    s.addUnlessDecimal i m = { s with a := addByte s.a m s.p.c, p := s.p.setAdd s.a m } := by
  simp [State.addUnlessDecimal, h]

/-- Settles O35: in binary mode `addByte_toNat` and `Status.setAdd_eq` give the sum and its flags, and with D = 1
nothing but the fatal error is left; the slots are read off the matrix. -/
theorem adcAddsWithCarry : Obligations.AdcAddsWithCarry := by
  refine ⟨fun i s h => ?_, by decide⟩
  rw [exec_addition (f := fun m => m) (by rw [h]; rfl)]
  refine ⟨fun hd => ?_, fun hd => ?_⟩
  · rw [addUnlessDecimal_of_binary hd, Status.setAdd_eq]
    exact ⟨_, rfl, addByte_toNat _ _ _, rfl, rfl, rfl, rfl, rfl⟩
  · rw [addUnlessDecimal_of_decimal hd]

theorem complement_toNat (m : Byte) : (~~~m).toNat = 255 - m.toNat := BitVec.toNat_not

theorem complement_toInt (m : Byte) : (~~~m).toInt = -1 - m.toInt := by
  have hm := m.isLt
  rw [BitVec.toInt_eq_toNat_cond, BitVec.toInt_eq_toNat_cond, complement_toNat]
  omega

/-- Settles O36: adding the complement is subtracting over integers (`complement_toNat`, `complement_toInt`): the sum is
256 more than the difference, and the signed sum is the signed difference. With D = 1 nothing but the fatal error is
left; the slots are read off the matrix. -/
theorem sbcSubtractsWithBorrow : Obligations.SbcSubtractsWithBorrow := by
  refine ⟨fun i s h => ?_, by decide⟩
  rw [exec_addition (f := fun m => ~~~m) (by rw [h]; rfl)]
  refine ⟨fun hd => ?_, fun hd => ?_⟩
  · have hm := (operand i s).isLt
    have hnat := complement_toNat (operand i s)
    have hint := complement_toInt (operand i s)
    rw [addUnlessDecimal_of_binary hd, Status.setAdd_eq]
    refine ⟨_, rfl, ?_, decide_eq_decide.mpr ?_, decide_eq_decide.mpr ?_, decide_eq_decide.mpr ?_,
      decide_eq_decide.mpr ?_, rfl⟩
    · rw [addByte_toNat]
      omega
    all_goals omega
  · rw [addUnlessDecimal_of_decimal hd]

end Sys2Proof.Machine
end

section
/-! The shifts and rotates, over integers (spec/44_shift_incdec.md R200 to R203). -/

namespace Sys2Proof.Machine

theorem byte_bit0_eq_decide (v : Byte) : v.getLsbD 0 = decide (v.toNat % 2 = 1) := by
  rw [BitVec.getLsbD, Nat.testBit_zero]

/-- A carry that enters a bit left empty is a summand. -/
theorem or_carry_toNat {v weight : Byte} (hempty : v &&& weight = 0) (c : Bool) :
    (v ||| (if c then weight else 0)).toNat = (v.toNat + c.toNat * weight.toNat) % 256 := by
  cases c with
  | false => simp [Nat.mod_eq_of_lt v.isLt]
  | true => rw [if_pos rfl, ← BitVec.add_eq_or_of_and_eq_zero _ _ hempty, BitVec.toNat_add, Bool.toNat_true, one_mul]

theorem aslByte_eq (v : Byte) (c : Bool) :
    aslByte v c = (BitVec.ofNat 8 (2 * v.toNat % 256), decide (128 ≤ v.toNat)) := by
  have hv : v <<< 1 = BitVec.ofNat 8 (2 * v.toNat % 256) := by bv_omega
  rw [aslByte, hv, byte_bit7_eq_decide]

theorem lsrByte_eq (v : Byte) (c : Bool) :
    lsrByte v c = (BitVec.ofNat 8 (v.toNat / 2), decide (v.toNat % 2 = 1)) := by
  have hv : v >>> 1 = BitVec.ofNat 8 (v.toNat / 2) := by bv_omega
  rw [lsrByte, hv, byte_bit0_eq_decide]

theorem rolByte_eq (v : Byte) (c : Bool) :
    rolByte v c = (BitVec.ofNat 8 ((2 * v.toNat + c.toNat) % 256), decide (128 ≤ v.toNat)) := by
  have hv : v <<< 1 ||| (if c then 0x01 else 0x00) = BitVec.ofNat 8 ((2 * v.toNat + c.toNat) % 256) := by
    have hempty : v <<< 1 &&& 0x01 = 0 := (BitVec.and_twoPow (v <<< 1) 0).trans (by simp)
    have hsum := or_carry_toNat hempty c
    bv_omega
  rw [rolByte, hv, byte_bit7_eq_decide]

theorem rorByte_eq (v : Byte) (c : Bool) :
    rorByte v c = (BitVec.ofNat 8 (v.toNat / 2 + 128 * c.toNat), decide (v.toNat % 2 = 1)) := by
  have hv : v >>> 1 ||| (if c then 0x80 else 0x00) = BitVec.ofNat 8 (v.toNat / 2 + 128 * c.toNat) := by
    have hempty : v >>> 1 &&& 0x80 = 0 := (BitVec.and_twoPow (v >>> 1) 7).trans (by simp)
    have hsum := or_carry_toNat hempty c
    have hc := c.toNat_le
    bv_omega
  rw [rorByte, hv, byte_bit0_eq_decide]

theorem exec_shift_eq {i : Instr} {m : Mnemonic} {f : Shifter} (s : State) {r : Nat} {out : Bool}
    (hf : shifter m = some f) (hr : f (operand i s) s.p.c = (BitVec.ofNat 8 r, out)) (h : i.mnemonic = m) :
    exec i s = .next (
      if i.mode = .accumulator then
        { s with a := BitVec.ofNat 8 r, p := { nzOf (BitVec.ofNat 8 r) s.p with c := out } }
      else
        { s with
          mem := s.mem.write (ea i s) (BitVec.ofNat 8 r)
          p := { nzOf (BitVec.ofNat 8 r) s.p with c := out } }) := by
  have hflags : s.p.setNZC (BitVec.ofNat 8 r) out = { nzOf (BitVec.ofNat 8 r) s.p with c := out } := by
    rw [← Status.setNZ_eq_nzOf]
    rfl
  rw [exec_shift (h ▸ hf), State.shiftOperand, hr, hflags]
  split <;> rfl

/-- Settles O38: `exec_shift_eq` at the shifter of each mnemonic with its integer form; the slots are read off the
matrix. -/
theorem shiftsAndRotates : Obligations.ShiftsAndRotates :=
  ⟨fun _ s => ⟨exec_shift_eq s rfl (aslByte_eq _ _), exec_shift_eq s rfl (lsrByte_eq _ _),
    exec_shift_eq s rfl (rolByte_eq _ _), exec_shift_eq s rfl (rorByte_eq _ _)⟩,
    by decide, by decide, by decide, by decide⟩

end Sys2Proof.Machine
end

section
/-! Branches, jumps and BRK (spec/45_control.md R220 to R233, R236). -/

namespace Sys2Proof.Machine

theorem branchAnswers {i : Instr} {c : Cond} {off : Byte} {taken : Bool} (s : State)
    (hc : branchCond i.mnemonic = some c) (hoff : i.op0 = off) (htaken : Cond.holds c s.p = taken) :
    BranchAnswers i off taken s := by
  subst hoff htaken
  refine ⟨_, exec_branch hc s, fun h => ?_, fun h => ?_⟩
  · rw [if_pos h, branchTarget_toNat]
  · rw [h]
    rfl

/-- Settles O41: `branchAnswers` at the condition of each mnemonic, whose flag test is its definition; the slots are
read off the matrix. -/
theorem branchesTestTheirFlag : Obligations.BranchesTestTheirFlag := by
  refine ⟨fun s off => ?_, fun p => ⟨rfl, rfl, rfl, rfl, rfl, rfl, rfl, rfl⟩,
    by decide, by decide, by decide, by decide, by decide, by decide, by decide, by decide⟩
  exact ⟨branchAnswers (c := .pl) s rfl rfl rfl, branchAnswers (c := .mi) s rfl rfl rfl,
    branchAnswers (c := .vc) s rfl rfl rfl, branchAnswers (c := .vs) s rfl rfl rfl,
    branchAnswers (c := .cc) s rfl rfl rfl, branchAnswers (c := .cs) s rfl rfl rfl,
    branchAnswers (c := .ne) s rfl rfl rfl, branchAnswers (c := .eq) s rfl rfl rfl⟩

theorem exec_jmpAbs (addr : Word) (s : State) : exec (.jmpAbs addr) s = .next (s.setPC addr) := rfl

/-- Settles O42: `exec_jmpAbs`, and the two operand bytes over integers; the slots are read off the matrix. -/
theorem jmpAbsoluteLoadsPC : Obligations.JmpAbsoluteLoadsPC := by
  refine ⟨fun s addr => exec_jmpAbs addr s, fun addr => ?_, by decide⟩
  rw [← lowByte_eq_ofNat, ← highByte_eq_ofNat]
  rfl

/-- The two masks of R233 take the page of `ptr` and the wrapped low byte after it. -/
theorem jumpHighAddress_original (ptr : Word) :
    jumpHighAddress .original ptr = combine (lowByte (ptr + 1)) (highByte ptr) := by
  refine BitVec.eq_of_getLsbD_eq fun k hk => ?_
  rw [jumpHighAddress, combine, lowByte, highByte, BitVec.getLsbD_append]
  interval_cases k <;> simp

/-- The address of the high byte over integers, for both variants (R233). -/
theorem jumpHighAddress_eq_ofNat (model : Model) (ptr : Word) :
    jumpHighAddress model ptr = BitVec.ofNat 16 (
      if model = .original then ptr.toNat / 256 * 256 + (ptr.toNat + 1) % 256 else (ptr.toNat + 1) % 65536) := by
  have hnext : (ptr + 1).toNat = (ptr.toNat + 1) % 65536 := BitVec.toNat_add ptr 1
  apply BitVec.eq_of_toNat_eq
  cases model with
  | original =>
    have hptr := ptr.isLt
    rw [jumpHighAddress_original, combine_toNat, lowByte_toNat, highByte_toNat, hnext, if_pos rfl, BitVec.toNat_ofNat]
    omega
  | with65C02Fixes =>
    rw [jumpHighAddress, hnext, if_neg (by decide), BitVec.toNat_ofNat, Nat.mod_mod]

theorem exec_jmpInd (addr : Word) (s : State) : exec (.jmpInd addr) s = .next (s.setPC (jumpTarget addr s)) := rfl

/-- Settles O43: the low byte is read at the pointer, the high byte at `jumpHighAddress_eq_ofNat`. -/
theorem jmpIndirectReadsItsPointer : Obligations.JmpIndirectReadsItsPointer := by
  intro s addr
  rw [exec_jmpInd, jumpTarget, jumpHighAddress_eq_ofNat]
  rfl

theorem exec_brk (s : State) :
    exec .brk s = .next ((s.setPC (s.pc + 1)).enterHandler irqVector s.p.stackedByProgram) := rfl

/-- `State.entryMemory` with SP's moves added up. -/
theorem State.entryMemory_eq (stackedP : Byte) (s : State) :
    s.entryMemory stackedP =
      ((s.mem.write (stackAddress s.sp) (highByte s.pc)).write (stackAddress (s.sp - 1)) (lowByte s.pc)).write
        (stackAddress (s.sp - 2)) stackedP := by
  have htwo : s.sp - 1 - 1 = s.sp - 2 := sub_sub s.sp 1 1
  rw [State.entryMemory, htwo]

theorem byte_sub_one_thrice (b : Byte) : b - 1 - 1 - 1 = b - 3 := by bv_omega

/-- Settles O45: the entry of `State.enterHandler_eq` from the state past the padding byte, with SP's moves added up;
the slot is read off the matrix. -/
theorem brkEntersTheHandler : Obligations.BrkEntersTheHandler := by
  refine ⟨fun s => ?_, by decide⟩
  rw [exec_brk, State.enterHandler_eq, State.entryMemory_eq, byte_sub_one_thrice]
  rfl

end Sys2Proof.Machine
end

section
/-! What each instruction leaves unchanged (spec/10_state.md R21 to R24, R30, R35 to R39). In every arm of `effect` that
is not listed as writing a field, that field of the record is the old one by definition. -/

namespace Sys2Proof.Machine

theorem exec_next_iff {i : Instr} {s t : State} : exec i s = .next t ↔ t = effect i s := by
  rw [exec_eq_effect, Host.Outcome.next.injEq, eq_comm]

theorem effect_keeps_a {i : Instr} (s : State) (h : writesA i = false) : (effect i s).a = s.a := by
  unfold effect
  cases hm : i.mnemonic
  case lda | txa | tya | pla | and | ora | eor | adc | sbc => simp [writesA, hm] at h
  case asl | lsr | rol | ror =>
    have hmode : i.mode ≠ .accumulator := by simpa [writesA, hm] using h
    exact if_neg hmode
  all_goals rfl

theorem effect_keeps_x {i : Instr} (s : State) (h : writesX i = false) : (effect i s).x = s.x := by
  unfold effect
  cases hm : i.mnemonic
  case ldx | tax | tsx | inx | dex => simp [writesX, hm] at h
  all_goals rfl

theorem effect_keeps_y {i : Instr} (s : State) (h : writesY i = false) : (effect i s).y = s.y := by
  unfold effect
  cases hm : i.mnemonic
  case ldy | tay | iny | dey => simp [writesY, hm] at h
  all_goals rfl

theorem effect_keeps_sp {i : Instr} (s : State) (h : writesSP i = false) : (effect i s).sp = s.sp := by
  unfold effect
  cases hm : i.mnemonic
  case txs | pha | php | pla | plp | jsr | rts | brk | rti => simp [writesSP, hm] at h
  all_goals rfl

theorem effect_keeps_pc {i : Instr} (s : State) (h : writesPC i = false) : (effect i s).pc = s.pc := by
  unfold effect
  cases hm : i.mnemonic
  case bpl | bmi | bvc | bvs | bcc | bcs | bne | beq | jmp | jsr | rts | brk | rti => simp [writesPC, hm] at h
  all_goals rfl

/-- Settles O50: the five registers, one lemma each. -/
theorem registerFrame : Obligations.RegisterFrame := by
  intro i s t h
  obtain rfl := exec_next_iff.mp h
  exact ⟨effect_keeps_a s, effect_keeps_x s, effect_keeps_y s, effect_keeps_sp s, effect_keeps_pc s⟩

theorem effect_keeps_nz {i : Instr} (s : State) (h : writesNZ i = false) :
    (effect i s).p.n = s.p.n ∧ (effect i s).p.z = s.p.z := by
  unfold effect
  cases hm : i.mnemonic
  case lda | ldx | ldy | tax | tay | txa | tya | tsx | pla | inc | dec | inx | dex | iny | dey | and | ora | eor | adc |
      sbc | cmp | cpx | cpy | asl | lsr | rol | ror | bit | plp | rti => simp [writesNZ, hm] at h
  all_goals exact ⟨rfl, rfl⟩

theorem effect_keeps_v {i : Instr} (s : State) (h : writesV i = false) : (effect i s).p.v = s.p.v := by
  unfold effect
  cases hm : i.mnemonic
  case adc | sbc | bit | clv | plp | rti => simp [writesV, hm] at h
  all_goals rfl

theorem addUnlessDecimal_d (i : Instr) (m : Byte) (s : State) : (s.addUnlessDecimal i m).p.d = s.p.d := by
  rw [State.addUnlessDecimal, apply_ite Status.d, Status.setAdd_d, ite_self]

theorem addUnlessDecimal_i (i : Instr) (m : Byte) (s : State) : (s.addUnlessDecimal i m).p.i = s.p.i := by
  rw [State.addUnlessDecimal, apply_ite Status.i, Status.setAdd_i, ite_self]

theorem effect_keeps_d {i : Instr} (s : State) (h : writesD i = false) : (effect i s).p.d = s.p.d := by
  unfold effect
  cases hm : i.mnemonic
  case cld | plp | rti => simp [writesD, hm] at h
  case adc | sbc => exact addUnlessDecimal_d _ _ s
  all_goals rfl

theorem effect_keeps_i {i : Instr} (s : State) (h : writesI i = false) : (effect i s).p.i = s.p.i := by
  unfold effect
  cases hm : i.mnemonic
  case brk | cli | sei | plp | rti => simp [writesI, hm] at h
  case adc | sbc => exact addUnlessDecimal_i _ _ s
  all_goals rfl

theorem effect_keeps_c {i : Instr} (s : State) (h : writesC i = false) : (effect i s).p.c = s.p.c := by
  unfold effect
  cases hm : i.mnemonic
  case adc | sbc | cmp | cpx | cpy | asl | lsr | rol | ror | clc | sec | plp | rti => simp [writesC, hm] at h
  all_goals rfl

/-- Settles O51: the columns of the flag table, one lemma each. -/
theorem flagFrame : Obligations.FlagFrame := by
  intro i s t h
  obtain rfl := exec_next_iff.mp h
  exact ⟨effect_keeps_nz s, effect_keeps_v s, effect_keeps_d s, effect_keeps_i s, effect_keeps_c s⟩

/-- The part of the state that no instruction's meaning writes: MODEL, the decode state, the latches, the reset
condition and the driver's list stay in every arm. -/
theorem effect_keeps_control (i : Instr) (s : State) :
    (effect i s).model = s.model ∧ (effect i s).dec = s.dec ∧ (effect i s).nmiPending = s.nmiPending ∧
      (effect i s).irqPending = s.irqPending ∧ (effect i s).resetApplied = s.resetApplied ∧
      (effect i s).driver = s.driver := by
  unfold effect
  split <;> exact ⟨rfl, rfl, rfl, rfl, rfl, rfl⟩

theorem effect_keeps_halt {i : Instr} (s : State) (h : canRaise i = false) :
    (effect i s).halted = s.halted ∧ (effect i s).fault = s.fault := by
  unfold effect
  cases hm : i.mnemonic
  case adc | sbc | sed => simp [canRaise, hm] at h
  all_goals exact ⟨rfl, rfl⟩

/-- Settles O53: `effect_keeps_control`, and `effect_keeps_halt` for the instructions that cannot raise. -/
theorem controlStateFrame : Obligations.ControlStateFrame := by
  intro i s t h
  obtain rfl := exec_next_iff.mp h
  obtain ⟨hmodel, hdec, hnmi, hirq, hreset, hdriver⟩ := effect_keeps_control i s
  exact ⟨hmodel, hdec, hnmi, hirq, hreset, hdriver, effect_keeps_halt s⟩

end Sys2Proof.Machine
end

section
/-! The bytes an instruction stores, as one list of writes (spec/20_memory.md R63, R69). -/

namespace Sys2Proof.Machine

/-- A write changes no other cell, whether or not the memory is canonical. -/
theorem Memory.readAt_writeAt_ne (m : Memory) {a b : Nat} (v : Byte) (hne : b ≠ a) :
    (m.writeAt a v).readAt b = m.readAt b := by
  induction m with
  | nil =>
    unfold Memory.writeAt
    split
    · rfl
    · rw [Memory.readAt_cons, if_neg hne.symm]
  | cons c rest ih =>
    obtain ⟨k, w⟩ := c
    unfold Memory.writeAt
    split
    · split
      · rfl
      · rw [Memory.readAt_cons, if_neg hne.symm]
    · split
      · next hak =>
        have hkb : k ≠ b := hak ▸ hne.symm
        rw [Memory.readAt_cons k w, if_neg hkb]
        split
        · rfl
        · rw [Memory.readAt_cons, if_neg hne.symm]
      · rw [Memory.readAt_cons, Memory.readAt_cons, ih]

theorem Memory.read_write_ne (m : Memory) {a b : Word} (v : Byte) (hne : b ≠ a) : (m.write a v).read b = m.read b :=
  Memory.readAt_writeAt_ne m v (mt BitVec.eq_of_toNat_eq hne)

/-- Writes one after another. -/
def Memory.writeAll (m : Memory) (cells : List (Word × Byte)) : Memory :=
  cells.foldl (fun m cell => m.write cell.1 cell.2) m

theorem Memory.writeAll_wf (cells : List (Word × Byte)) (m : Memory) (h : m.wf = true) :
    (m.writeAll cells).wf = true := by
  induction cells generalizing m with
  | nil => exact h
  | cons cell rest ih => exact ih _ (Memory.write_wf m cell.1 cell.2 h)

theorem Memory.read_writeAll_of_not_mem (cells : List (Word × Byte)) (m : Memory) (a : Word)
    (h : a ∉ cells.map Prod.fst) : (m.writeAll cells).read a = m.read a := by
  induction cells generalizing m with
  | nil => rfl
  | cons cell rest ih =>
    obtain ⟨hne, hrest⟩ := not_or.mp (mt List.mem_cons.mpr h)
    exact (ih _ hrest).trans (Memory.read_write_ne m cell.2 hne)

/-- The memory an instruction leaves: the bytes at its stored addresses are written, in their order. -/
theorem effect_mem (i : Instr) (s : State) :
    ∃ cells : List (Word × Byte),
      cells.map Prod.fst = storedAddresses i s ∧ (effect i s).mem = s.mem.writeAll cells := by
  unfold effect storedAddresses
  cases hm : i.mnemonic
  case sta | stx | sty | inc | dec | pha | php => exact ⟨[(_, _)], rfl, rfl⟩
  case jsr => exact ⟨[(_, _), (_, _)], rfl, rfl⟩
  case brk => exact ⟨[(_, _), (_, _), (_, _)], rfl, State.entryMemory_eq _ (s.setPC (s.pc + 1))⟩
  case asl | lsr | rol | ror =>
    by_cases hmode : i.mode = .accumulator
    · exact ⟨[], by simp [hmode], if_pos hmode⟩
    · exact ⟨[(ea i s, _)], by simp [hmode], if_neg hmode⟩
  all_goals exact ⟨[], rfl, rfl⟩

/-- Settles O52: outside the addresses of `effect_mem` no write reaches. -/
theorem memoryFrame : Obligations.MemoryFrame := by
  intro i s t a h ha
  obtain rfl := exec_next_iff.mp h
  obtain ⟨cells, hcells, hmem⟩ := effect_mem i s
  rw [hmem, Memory.read_writeAll_of_not_mem _ _ _ (hcells ▸ ha)]

end Sys2Proof.Machine
end

section
/-! The effective addresses over integers, and the page crossing (spec/40_dispatcher.md R130 to R132, R135). -/

namespace Sys2Proof.Machine

theorem byte_add_eq_ofNat (b c : Byte) : b + c = BitVec.ofNat 8 (b.toNat + c.toNat) := by
  rw [BitVec.ofNat_add, BitVec.ofNat_toNat, BitVec.ofNat_toNat, BitVec.setWidth_eq, BitVec.setWidth_eq]

theorem byte_eq_ofNat_toNat (b : Byte) : b = BitVec.ofNat 8 b.toNat := by
  rw [BitVec.ofNat_toNat, BitVec.setWidth_eq]

theorem zext16_toNat (b : Byte) : (zext16 b).toNat = b.toNat := by
  rw [zext16, BitVec.toNat_setWidth_of_le (by decide)]

theorem zext16_eq_ofNat (b : Byte) : zext16 b = BitVec.ofNat 16 b.toNat := by
  rw [← zext16_toNat, BitVec.ofNat_toNat, BitVec.setWidth_eq]

/-- The address of the high byte wraps inside page 0 (R135). -/
theorem Memory.zeroPagePointer_ofNat (m : Memory) (n : Nat) :
    m.zeroPagePointer (BitVec.ofNat 8 n) =
      combine (m.read (BitVec.ofNat 16 (n % 256))) (m.read (BitVec.ofNat 16 ((n + 1) % 256))) := by
  have hnext : BitVec.ofNat 8 n + 1 = BitVec.ofNat 8 (n + 1) := (BitVec.ofNat_add n 1).symm
  rw [Memory.zeroPagePointer, hnext, zext16_eq_ofNat, zext16_eq_ofNat, BitVec.toNat_ofNat, BitVec.toNat_ofNat]

theorem Memory.zeroPagePointer_ofNat_toNat (m : Memory) (n : Nat) :
    (m.zeroPagePointer (BitVec.ofNat 8 n)).toNat =
      (m.read (BitVec.ofNat 16 (n % 256))).toNat + 256 * (m.read (BitVec.ofNat 16 ((n + 1) % 256))).toNat := by
  rw [m.zeroPagePointer_ofNat, combine_toNat]

/-- An indexed address wraps modulo 65536 (D3). -/
theorem word_add_zext16_toNat (base : Word) (index : Byte) :
    (base + zext16 index).toNat = (base.toNat + index.toNat) % 65536 := by
  rw [BitVec.toNat_add, zext16_toNat]

/-- Settles O13: each sum is the `toNat` of its own width, and `Memory.zeroPagePointer_ofNat_toNat` reads the
pointers. -/
theorem effectiveAddressByMode : Obligations.EffectiveAddressByMode := by
  intro s op0 op1 zp
  refine ⟨zext16_toNat op0, ?_, ?_, combine_toNat op0 op1, ?_, ?_, ?_, ?_, rfl, rfl, ?_⟩
  · exact (zext16_toNat _).trans (BitVec.toNat_add op0 s.x)
  · exact (zext16_toNat _).trans (BitVec.toNat_add op0 s.y)
  · exact (word_add_zext16_toNat _ s.x).trans (by rw [combine_toNat])
  · exact (word_add_zext16_toNat _ s.y).trans (by rw [combine_toNat])
  · rw [effectiveAddress, eaIndirectX, byte_add_eq_ofNat]
    exact s.mem.zeroPagePointer_ofNat_toNat _
  · have hpointer : (s.mem.zeroPagePointer op0).toNat = zp op0.toNat + 256 * zp (op0.toNat + 1) := by
      conv_lhs => rw [byte_eq_ofNat_toNat op0]
      exact s.mem.zeroPagePointer_ofNat_toNat _
    rw [← hpointer]
    exact word_add_zext16_toNat _ s.y
  · intro mode hmode
    fin_cases hmode <;> rfl

/-- Settles O14: `Memory.zeroPagePointer_ofNat` at `z` and at 0xFF; a zero-extended byte is below 256. -/
theorem zeroPagePointersAndIndexesWrap : Obligations.ZeroPagePointersAndIndexesWrap := by
  intro s op0 op1 z
  refine ⟨?_, s.mem.zeroPagePointer_ofNat 0xFF, rfl, ?_, ?_, ?_⟩
  · conv_lhs => rw [byte_eq_ofNat_toNat z]
    rw [s.mem.zeroPagePointer_ofNat, Nat.mod_eq_of_lt z.isLt]
  · rw [← zext16_eq_ofNat]
    rfl
  · exact (zext16_toNat _).trans_lt (op0 + s.x).isLt
  · exact (zext16_toNat _).trans_lt (op0 + s.y).isLt

/-- The low-byte sum of R132 is the page crossing of R16, also where the address wraps. -/
theorem crossesPage_toNat (lo hi index : Byte) :
    (crossesPage lo index).toNat =
      if (combine lo hi + zext16 index).toNat / 256 = (combine lo hi).toNat / 256 then 0 else 1 := by
  have hlo := lo.isLt
  have hhi := hi.isLt
  have hindex := index.isLt
  rw [crossesPage, word_add_zext16_toNat, combine_toNat]
  split
  · next hsame =>
    rw [decide_eq_false (by omega)]
    rfl
  · next hother =>
    rw [decide_eq_true (by omega)]
    rfl

end Sys2Proof.Machine
end

section
/-! Facts about every slot of the matrix, evaluated slot by slot (spec/30_encoding.md R89 to R92). -/

namespace Sys2Proof

theorem mem_of_getD_ne {α : Type} {l : List α} {n : Nat} {default : α} (h : l.getD n default ≠ default) :
    l.getD n default ∈ l := by
  rw [List.getD_eq_getElem?_getD] at h ⊢
  cases hn : l[n]? with
  | none => exact absurd (by rw [hn]; rfl) h
  | some a => exact List.mem_of_getElem? hn

/-- What holds of every slot that the matrix lists holds of every opcode's. -/
theorem descriptor_of_all {p : Descriptor → Bool} (h : matrix.all (·.all (·.all p)) = true) {opcode : Byte}
    {d : Descriptor} (hd : descriptor opcode = some d) : p d = true := by
  have hsome : descriptor opcode ≠ none := hd ▸ Option.some_ne_none d
  have hcell : some d ∈ matrix.getD (opcode.toNat / 16) [] := hd ▸ mem_of_getD_ne hsome
  have hrow : matrix.getD (opcode.toNat / 16) [] ∈ matrix := mem_of_getD_ne (List.ne_nil_of_mem hcell)
  exact List.all_eq_true.mp (List.all_eq_true.mp h _ hrow) _ hcell

/-- The bounds of R121, with the largest count of ticks. -/
theorem descriptor_bounds {opcode : Byte} {d : Descriptor} (h : descriptor opcode = some d) :
    1 ≤ d.size ∧ d.size ≤ d.baseCycles ∧ 2 ≤ d.baseCycles ∧ d.baseCycles + Machine.maxExtra d.penalty ≤ 7 := by
  have hall : matrix.all (·.all (·.all fun d => decide (1 ≤ d.size ∧ d.size ≤ d.baseCycles ∧ 2 ≤ d.baseCycles ∧
      d.baseCycles + Machine.maxExtra d.penalty ≤ 7))) = true := by decide
  exact of_decide_eq_true (descriptor_of_all (p := fun d => decide _) hall h)

/-- Settles O4: the two lists are read off the matrix, and the bounds are `descriptor_bounds`. -/
theorem opcodeMatrixShape : Obligations.OpcodeMatrixShape := by
  refine ⟨by decide, fun opcode d h => ?_, by decide⟩
  obtain ⟨hone, hsize, htwo, hseven⟩ := descriptor_bounds h
  exact ⟨hone, hsize, htwo, by omega⟩

/-- The modes that have the page-cross penalty (R91). -/
theorem descriptor_page_mode {opcode : Byte} {d : Descriptor} (h : descriptor opcode = some d)
    (hpage : d.penalty = .page) : d.mode = .absoluteX ∨ d.mode = .absoluteY ∨ d.mode = .indirectY := by
  have hall : matrix.all (·.all (·.all fun d => decide (d.penalty = .page → d.mode = .absoluteX ∨ d.mode = .absoluteY ∨
      d.mode = .indirectY))) = true := by decide
  exact of_decide_eq_true (descriptor_of_all (p := fun d => decide _) hall h) hpage

/-- Settles O5: each word has one slot, whose bytes the decoder reads. -/
theorem writtenWordsDecode : Obligations.WrittenWordsDecode :=
  ⟨rfl, rfl, rfl, rfl, rfl, rfl, rfl, rfl, rfl⟩

namespace Machine

/-- Settles O15: `crossesPage_toNat` at the base of each mode; `descriptor_page_mode` says that there is no other. -/
theorem pagePenaltyIsTheCrossing : Obligations.PagePenaltyIsTheCrossing := by
  intro d s
  refine ⟨fun hnone => ?_, fun hpage => ⟨fun hmode => ?_, fun hmode => ?_, fun hmode => ?_⟩,
    fun _ h => descriptor_page_mode h⟩
  · simp only [extraCycles, hnone]
  · simp only [extraCycles, hpage, hmode]
    exact crossesPage_toNat _ _ s.x
  · simp only [extraCycles, hpage, hmode]
    exact crossesPage_toNat _ _ s.y
  · simp only [extraCycles, hpage, hmode]
    exact crossesPage_toNat _ _ s.y

end Machine

end Sys2Proof
end

section
/-! The status byte, RESET, requests and the driver's write (spec/10_state.md R26, spec/20_memory.md R68,
spec/60_exceptions.md R280, spec/70_reset_and_hazards.md R300 to R305). -/

namespace Sys2Proof.Machine

theorem Status.unpack_pack (p : Status) : Status.unpack p.pack = p := by
  simp only [Status.unpack, Status.getLsbD_pack]
  rfl

/-- Settles O6: the bits of `Status.getLsbD_pack`, one after another, and `Status.unpack_pack`. -/
theorem packGivesTheStatusByte : Obligations.PackGivesTheStatusByte := by
  refine ⟨fun p => ?_, by decide⟩
  simp only [Status.getLsbD_pack]
  exact ⟨rfl, rfl, rfl, rfl, rfl, rfl, rfl, rfl, p.unpack_pack⟩

theorem Status.unpack_0x24 : Status.unpack 0x24 = Status.afterReset := by decide

/-- Settles O8: `applyReset` writes these values, with P as `Status.unpack_0x24` reads it. -/
theorem resetActionSetsTheResetValues : Obligations.ResetActionSetsTheResetValues := by
  intro s
  rw [applyAction_reset, Status.unpack_0x24]
  exact ⟨rfl, by decide⟩

/-- RESET writes every field but memory, MODEL and the driver's list. -/
theorem applyReset_eq_reset {s : State} (hmodel : s.model = .original) (hmem : s.mem = []) (hdriver : s.driver = []) :
    s.applyReset = State.reset := by
  unfold State.applyReset
  rw [hmodel, hmem, hdriver]
  rfl

/-- Settles O9: both states have what RESET leaves (`applyReset_eq_reset`). -/
theorem resetStateIsResetOfEmptyMemory : Obligations.ResetStateIsResetOfEmptyMemory := by
  refine ⟨fun unspecified => ?_, ?_, rfl, by decide, rfl⟩
  · exact congrArg Host.Outcome.next (applyReset_eq_reset rfl rfl rfl)
  · exact congrArg Host.Outcome.next (applyReset_eq_reset rfl rfl rfl)

/-- Settles O24: `State.requestInterrupt` by kind and by I. -/
theorem requestInterruptLatches : Obligations.RequestInterruptLatches := by
  intro s hreset
  refine ⟨applyAction_requestInterrupt .nmi hreset, fun hi => ?_, fun hi => ?_⟩
  all_goals rw [applyAction_requestInterrupt .irq hreset, State.requestInterrupt]
  · rw [if_neg (Bool.eq_false_iff.mp hi)]
  · rw [if_pos hi]

/-- Settles O60: the write is one store, read back by `Memory.read_write` and canonical by `Memory.write_wf`. -/
theorem driverWriteChangesOneByte : Obligations.DriverWriteChangesOneByte := by
  intro s addr v hwf t
  exact ⟨rfl, fun b => s.mem.read_write addr b v hwf, s.mem.write_wf addr v hwf, fun rest h => step_action h⟩

end Sys2Proof.Machine
end

section
/-! Ticks that need no interrupt: before the first RESET, while halted, at a quiet boundary and at retirement
(spec/40_dispatcher.md R111 to R114, R118). -/

namespace Sys2Proof.Machine

theorem tick_beforeReset {s : State} (h : s.resetApplied = false) : tick s = .refused .beforeFirstReset := by
  simp [tick, h]

theorem requestInterrupt_beforeReset {s : State} (kind : IntKind) (h : s.resetApplied = false) :
    applyAction (.requestInterrupt kind) s = .refused .beforeFirstReset := by
  simp [applyAction, h]

/-- Settles O17: a lemma for each clause. -/
theorem haltedTickIdlesAndNothingRunsBeforeReset : Obligations.HaltedTickIdlesAndNothingRunsBeforeReset :=
  ⟨fun _ => tick_halted, fun _ kind h => ⟨tick_beforeReset h, requestInterrupt_beforeReset kind h⟩,
    fun _ => step_tick, fun _ _ _ => step_action⟩

theorem State.AtBoundary.fetchNext {s : State} (h : s.AtBoundary) : s.dec.fetchNext = true := by
  obtain ⟨-, hdec⟩ := h
  rw [hdec]
  rfl

theorem tick_atBoundary {s : State} (h : s.AtBoundary) : tick s = .next s.boundaryTick :=
  tick_boundary h.1 h.fetchNext

theorem boundaryTick_quiet {s : State} (hnmi : s.nmiPending = false) (hirq : s.irqPending = false) :
    s.boundaryTick = s.fetchOpcode := by
  simp [State.boundaryTick, hnmi, hirq]

theorem boundaryTick_irq {s : State} (hnmi : s.nmiPending = false) (hirq : s.irqPending = true)
    (hi : s.p.i = false) : s.boundaryTick = ({ s with irqPending := false }).acceptInterrupt .irq := by
  simp [State.boundaryTick, hnmi, hirq, hi]

/-- A masked IRQ is dropped, and the opcode is fetched on the same tick (R284). -/
theorem boundaryTick_masked {s : State} (hnmi : s.nmiPending = false) (hirq : s.irqPending = true)
    (hi : s.p.i = true) : s.boundaryTick = ({ s with irqPending := false }).fetchOpcode := by
  simp [State.boundaryTick, hnmi, hirq, hi]

theorem fetchOpcode_valid {s : State} {d : Descriptor} (h : descriptor (s.mem.read s.pc) = some d) :
    s.fetchOpcode = { s with
      pc := s.pc + 1
      dec := { s.dec with opcodeByte := s.mem.read s.pc, cycleIndex := 1, fetchNext := false } } := by
  simp [State.fetchOpcode, h]

theorem fetchOpcode_invalid {s : State} (h : descriptor (s.mem.read s.pc) = none) :
    s.fetchOpcode = { s with
      pc := s.pc + 1
      dec := { s.dec with opcodeByte := s.mem.read s.pc, cycleIndex := 1, fetchNext := false }
      halted := true
      fault := some (.invalidOpcode (s.mem.read s.pc) s.pc) } := by
  simp [State.fetchOpcode, h, State.raise]

/-- Settles O18: `fetchOpcode_valid` and `fetchOpcode_invalid` from a boundary's decode state. -/
theorem boundaryTickFetchesOpcode : Obligations.BoundaryTickFetchesOpcode := by
  intro s hs hnmi hirq opcode t
  obtain ⟨-, hdec⟩ := id hs
  rw [tick_atBoundary hs, boundaryTick_quiet hnmi hirq]
  refine ⟨fun h => ?_, fun h => ?_⟩
  · obtain ⟨d, hd⟩ := Option.isSome_iff_exists.mp h
    rw [fetchOpcode_valid hd, hdec]
  · rw [fetchOpcode_invalid h, hdec]

/-- An entry in flight, so many cycles spent (R113, R119). -/
def State.entering (kind : IntKind) (cycles : Nat) (s : State) : State :=
  { s with dec := { DecodeState.boundary with entryKind := some kind, cycleIndex := cycles, fetchNext := false } }

theorem acceptInterrupt_atBoundary (kind : IntKind) {s : State} (h : s.dec = DecodeState.boundary) :
    s.acceptInterrupt kind = s.entering kind 1 := by
  rw [State.acceptInterrupt, h]
  rfl

/-- Settles O19: NMI before IRQ, and IRQ by I; dropping a masked IRQ leaves a boundary whose tick is the same fetch. -/
theorem interruptAcceptance : Obligations.InterruptAcceptance := by
  intro s hs
  obtain ⟨-, hdec⟩ := id hs
  refine ⟨fun hnmi => ?_, fun hnmi hirq hi => ?_, fun hnmi hirq hi => ?_⟩
  · rw [tick_boundary_nmi hs hnmi]
    exact congrArg Host.Outcome.next (acceptInterrupt_atBoundary .nmi hdec)
  · rw [tick_atBoundary hs, boundaryTick_irq hnmi hirq hi]
    exact congrArg Host.Outcome.next (acceptInterrupt_atBoundary .irq hdec)
  · have hdropped : State.AtBoundary { s with irqPending := false } := hs
    rw [tick_atBoundary hs, boundaryTick_masked hnmi hirq hi, tick_atBoundary hdropped,
      boundaryTick_quiet (s := { s with irqPending := false }) hnmi rfl]

theorem retire_next {i : Instr} {s u : State} (h : exec i s = .next u) :
    retire i s = .next (if u.halted then u else u.clearDecode) := by
  rw [retire, h]

@[simp] theorem spendCycle_opcodeByte (d : Descriptor) (s : State) :
    (s.spendCycle d).dec.opcodeByte = s.dec.opcodeByte := by
  rw [spendCycle_dec_frame]

/-- Settles O21: the bytes in flight are those of the slot (`decode_three`), so the retiring tick runs `i`. -/
theorem retirementRunsTheDecodedInstruction : Obligations.RetirementRunsTheDecodedInstruction := by
  intro s d i rest u hflight hretires t hdecode hexec
  obtain ⟨-, -, -, hd⟩ := id hflight
  have hi : i = Descriptor.inFlight d t := by
    rw [spendCycle_opcodeByte, decode_three hd] at hdecode
    cases hdecode
    rfl
  have htick : tick s = .next (if u.halted then u else u.clearDecode) := by
    rw [tick_inFlight_retire hflight hretires, ← hi, retire_next hexec]
  refine ⟨fun h => ?_, fun h => ?_, step_tick⟩
  · rw [htick, if_neg (Bool.eq_false_iff.mp h)]
    rfl
  · rw [htick, if_pos h]

end Sys2Proof.Machine
end

section
/-! The seven ticks of an interrupt entry (spec/60_exceptions.md R285, spec/40_dispatcher.md R119), and the boundary
after it (R284). -/

namespace Sys2Proof.Machine

theorem entering_inEntry {s : State} (h : s.Running) (kind : IntKind) (cycles : Nat) :
    (s.entering kind cycles).InEntry kind :=
  ⟨h, rfl, rfl⟩

/-- The ticks that only count. -/
theorem run_entering {s : State} (h : s.Running) (hdriver : s.driver = []) (kind : IntKind) (n cycles : Nat)
    (hn : cycles + n < 7) :
    Host.Core.run Sys2Proof.core n (s.entering kind cycles) = .next (s.entering kind (cycles + n)) := by
  induction n generalizing cycles with
  | zero => rfl
  | succ n ih =>
    have hcount : step (s.entering kind cycles) = .next (s.entering kind (cycles + 1)) := by
      rw [step_tick (s := s.entering kind cycles) hdriver, tick_entry (entering_inEntry h kind cycles),
        entryTick_wait kind (show cycles + 1 ≠ 7 by omega)]
      rfl
    rw [core_run_next n hcount, ih (cycles + 1) (by omega), Nat.add_right_comm]
    rfl

/-- What an entry commits (R285). -/
def State.entered (kind : IntKind) (s : State) : State :=
  { s with
    mem := s.entryMemory s.p.stackedByInterrupt
    sp := s.sp - 3
    p := { s.p with i := true }
    pc := (s.entryMemory s.p.stackedByInterrupt).readWord kind.vector
    dec := DecodeState.boundary }

theorem step_entering_commit {s : State} (h : s.Running) (hdriver : s.driver = []) (kind : IntKind) :
    step (s.entering kind 6) = .next (s.entered kind) := by
  rw [step_tick (s := s.entering kind 6) hdriver, tick_entry (entering_inEntry h kind 6),
    entryTick_commit kind rfl, byte_sub_one_thrice]
  rfl

/-- An entry from its acceptance on: five ticks count, and the sixth commits. -/
theorem run_entry {s : State} (h : s.Running) (hdriver : s.driver = []) (kind : IntKind) :
    Host.Core.run Sys2Proof.core 6 (s.entering kind 1) = .next (s.entered kind) := by
  have hwait := run_entering h hdriver kind 5 1 (by decide)
  rw [core_run_add 5 1 hwait, core_run_next 0 (step_entering_commit h hdriver kind)]
  rfl

/-- The seven ticks from a boundary that accepts an interrupt, `t` being the state with its latch cleared. -/
theorem run_acceptedEntry {s t : State} {kind : IntKind} (haccept : tick s = .next (t.acceptInterrupt kind))
    (hdriver : s.driver = []) (ht : t.AtBoundary) (htdriver : t.driver = []) :
    Host.Core.run Sys2Proof.core 7 s = .next (t.entered kind) := by
  obtain ⟨hrun, hdec⟩ := ht
  rw [acceptInterrupt_atBoundary kind hdec, ← step_tick hdriver] at haccept
  rw [core_run_next 6 haccept, run_entry hrun htdriver]

theorem run_nmiEntry {s : State} (hs : s.AtBoundary) (hdriver : s.driver = []) (hnmi : s.nmiPending = true) :
    Host.Core.run Sys2Proof.core 7 s = .next (({ s with nmiPending := false }).entered .nmi) :=
  run_acceptedEntry (tick_boundary_nmi hs hnmi) hdriver hs hdriver

theorem run_irqEntry {s : State} (hs : s.AtBoundary) (hdriver : s.driver = []) (hnmi : s.nmiPending = false)
    (hirq : s.irqPending = true) (hi : s.p.i = false) :
    Host.Core.run Sys2Proof.core 7 s = .next (({ s with irqPending := false }).entered .irq) :=
  run_acceptedEntry (boundaryTick_irq hnmi hirq hi ▸ tick_atBoundary hs) hdriver hs hdriver

/-- Bits 5 and 4 of P read 1 and 0 already, so the copy that an interrupt pushes is P itself (R26, R28). -/
theorem Status.stackedByInterrupt_eq_pack (p : Status) : p.stackedByInterrupt = p.pack := by
  refine BitVec.eq_of_getLsbD_eq fun k hk => ?_
  rw [Status.stackedByInterrupt, BitVec.getLsbD_or, BitVec.getLsbD_and, Status.getLsbD_pack]
  interval_cases k <;> simp

/-- Settles O23: `run_nmiEntry` and `run_irqEntry`; what is pushed is P itself. -/
theorem interruptEntryTakesSevenTicks : Obligations.InterruptEntryTakesSevenTicks := by
  intro s kind hs hdriver hpending
  obtain ⟨rfl, hnmi⟩ | ⟨rfl, hnmi, hirq, hi⟩ := hpending
  · rw [run_nmiEntry hs hdriver hnmi, State.entered, Status.stackedByInterrupt_eq_pack, State.entryMemory_eq]
    rfl
  · rw [run_irqEntry hs hdriver hnmi hirq hi, State.entered, Status.stackedByInterrupt_eq_pack, State.entryMemory_eq]
    rfl

theorem step_maskedBoundary {s : State} (hs : s.AtBoundary) (hdriver : s.driver = []) (hnmi : s.nmiPending = false)
    (hirq : s.irqPending = true) (hi : s.p.i = true) :
    step s = .next ({ s with irqPending := false }).fetchOpcode := by
  rw [step_tick hdriver, tick_atBoundary hs, boundaryTick_masked hnmi hirq hi]

/-- Settles O26: the NMI's entry sets I (`run_nmiEntry`), so the boundary after it drops the IRQ and fetches
(`step_maskedBoundary`). -/
theorem irqPendingWithNmiIsLost : Obligations.IrqPendingWithNmiIsLost := by
  intro s hs hdriver hnmi hirq
  have hentry := run_nmiEntry hs hdriver hnmi
  obtain ⟨hrun, -⟩ := hs
  have hboundary : (State.entered .nmi { s with nmiPending := false }).AtBoundary := ⟨hrun, rfl⟩
  have hfetch := step_maskedBoundary hboundary hdriver rfl hirq rfl
  rw [fetchOpcode_eq] at hfetch
  exact ⟨_, (core_run_add 7 1 hentry).trans (core_run_next 0 hfetch), rfl, rfl, rfl, rfl, rfl, rfl⟩

end Sys2Proof.Machine
end

section
/-! What is pushed is what is pulled (spec/20_memory.md R64, R65), wherever SP stands. -/

namespace Sys2Proof.Machine

theorem Memory.read_write_same {m : Memory} (h : m.wf = true) (addr : Word) (v : Byte) :
    (m.write addr v).read addr = v := by
  rw [m.read_write addr addr v h, if_pos rfl]

theorem stackAddress_ne {b c : Byte} (h : b ≠ c) : stackAddress b ≠ stackAddress c := by
  rw [stackAddress_eq_ofNat, stackAddress_eq_ofNat]
  bv_omega

theorem byte_ne_sub_one (b : Byte) : b ≠ b - 1 := by bv_omega

theorem byte_ne_sub_one_sub_one (b : Byte) : b ≠ b - 1 - 1 := by bv_omega

/-- What a push leaves on the stack. -/
theorem read_push {s : State} (h : s.mem.wf = true) (v : Byte) : (s.push v).mem.read (stackAddress s.sp) = v :=
  Memory.read_write_same h _ v

/-- What a further push leaves of it. -/
theorem read_push_other (s : State) {b : Byte} (h : b ≠ s.sp) (v : Byte) :
    (s.push v).mem.read (stackAddress b) = s.mem.read (stackAddress b) :=
  Memory.read_write_ne s.mem v (stackAddress_ne h)

theorem pull_push {s : State} (h : s.mem.wf = true) (v : Byte) : (s.push v).pull.1 = v := by
  rw [State.pull_byte, State.push_sp, sub_add_cancel, read_push h]

theorem read_pushWord_low {s : State} (h : s.mem.wf = true) (w : Word) :
    (s.pushWord w).mem.read (stackAddress (s.sp - 1)) = lowByte w :=
  read_push (State.push_wf (highByte w) s h) (lowByte w)

theorem read_pushWord_high {s : State} (h : s.mem.wf = true) (w : Word) :
    (s.pushWord w).mem.read (stackAddress s.sp) = highByte w := by
  rw [State.pushWord, read_push_other _ (byte_ne_sub_one s.sp), read_push h]

theorem pullWord_pushWord {s : State} (h : s.mem.wf = true) (w : Word) : (s.pushWord w).pullWord.1 = w := by
  have hsp : (s.pushWord w).sp + 1 = s.sp - 1 := sub_add_cancel (s.sp - 1) 1
  rw [State.pullWord_eq, hsp, sub_add_cancel, read_pushWord_low h, read_pushWord_high h, combine_low_high]

/-- The three bytes of an entry, read back. -/
theorem read_entryMemory {s : State} (h : s.mem.wf = true) (stackedP : Byte) :
    (s.entryMemory stackedP).read (stackAddress (s.sp - 1 - 1)) = stackedP ∧
      (s.entryMemory stackedP).read (stackAddress (s.sp - 1)) = lowByte s.pc ∧
      (s.entryMemory stackedP).read (stackAddress s.sp) = highByte s.pc := by
  have hmem : s.entryMemory stackedP = ((s.pushWord s.pc).push stackedP).mem := rfl
  rw [hmem]
  refine ⟨read_push (State.pushWord_wf s.pc s h) stackedP, ?_, ?_⟩
  · rw [read_push_other _ (byte_ne_sub_one (s.sp - 1)), read_pushWord_low h]
  · rw [read_push_other _ (byte_ne_sub_one_sub_one s.sp), read_pushWord_high h]

/-- A return takes back what the entry pushed, and leaves SP where it stood. -/
theorem returnFromHandler_enterHandler {s : State} (h : s.mem.wf = true) (vector : Word) (stackedP : Byte) :
    let u := (s.enterHandler vector stackedP).returnFromHandler
    u.p = Status.unpack stackedP ∧ u.pc = s.pc ∧ u.sp = s.sp := by
  obtain ⟨hp, hlow, hhigh⟩ := read_entryMemory h stackedP
  simp only [State.returnFromHandler_eq, State.enterHandler_eq, sub_add_cancel]
  rw [hp, hlow, hhigh, combine_low_high]
  exact ⟨rfl, rfl, trivial⟩

/-- Bits 5 and 4, which BRK and PHP set, have no flag (R27, R28). -/
theorem Status.unpack_stackedByProgram (p : Status) : Status.unpack p.stackedByProgram = p := by
  have hmasked : Status.unpack (p.pack ||| 0x30) = Status.unpack p.pack := by simp [Status.unpack]
  rw [Status.stackedByProgram, hmasked, p.unpack_pack]

/-- Settles O58: what is pulled is what was pushed (`pull_push`, `pullWord_pushWord`, `returnFromHandler_enterHandler`);
SP's moves cancel. -/
theorem stackRoundTrips : Obligations.StackRoundTrips := by
  intro s addr hwf
  refine ⟨⟨_, _, exec_pha s, exec_pla _, pull_push hwf s.a, sub_add_cancel s.sp 1⟩,
    ⟨_, _, exec_php s, exec_plp _, ?_, sub_add_cancel s.sp 1⟩, ⟨_, _, exec_jsr addr s, exec_rts _, ?_, ?_⟩,
    ⟨_, _, exec_brk s, exec_rti _, ?_⟩⟩
  · exact (congrArg Status.unpack (pull_push hwf _)).trans s.p.unpack_stackedByProgram
  · have hpulled : (s.pushWord (s.pc - 1)).pullWord.1 + 1 = s.pc := by
      rw [pullWord_pushWord hwf, sub_add_cancel]
    exact hpulled
  · have hsp : s.sp - 1 - 1 + 1 + 1 = s.sp := by rw [sub_add_cancel, sub_add_cancel]
    exact hsp
  · have hskipped : (s.setPC (s.pc + 1)).mem.wf = true := hwf
    obtain ⟨hp, hpc, hsp⟩ := returnFromHandler_enterHandler hskipped irqVector s.p.stackedByProgram
    exact ⟨hpc, hp.trans s.p.unpack_stackedByProgram, hsp⟩

end Sys2Proof.Machine
end

section
/-! ADC and SBC of one operand, one after the other (spec/43_logic_arith_compare.md R189). -/

namespace Sys2Proof.Machine

theorem exec_adcImm {s : State} (h : s.p.d = false) (m : Byte) :
    exec (.adcImm m) s = .next { s with a := addByte s.a m s.p.c, p := s.p.setAdd s.a m } := by
  rw [exec_addition (f := fun m => m) rfl, addUnlessDecimal_of_binary h]
  rfl

theorem exec_sbcImm {s : State} (h : s.p.d = false) (m : Byte) :
    exec (.sbcImm m) s = .next { s with a := addByte s.a (~~~m) s.p.c, p := s.p.setAdd s.a (~~~m) } := by
  rw [exec_addition (f := fun m => ~~~m) rfl, addUnlessDecimal_of_binary h]
  rfl

/-- Subtracting what was added leaves the two carries and the complement's 255. -/
theorem addByte_complement_toNat (a m : Byte) (c c' : Bool) :
    (addByte (addByte a m c) (~~~m) c').toNat = (a.toNat + c.toNat + 255 + c'.toNat) % 256 := by
  have hm := m.isLt
  rw [addByte_toNat, addByte_toNat, complement_toNat]
  omega

theorem eq_not_iff_toNat (c c' : Bool) : c' = !c ↔ c.toNat + c'.toNat = 1 := by
  cases c <;> cases c' <;> decide

theorem addByte_complement_eq_iff (a m : Byte) (c c' : Bool) :
    addByte (addByte a m c) (~~~m) c' = a ↔ c' = !c := by
  have ha := a.isLt
  have hc := c.toNat_le
  have hc' := c'.toNat_le
  rw [← BitVec.toNat_inj, addByte_complement_toNat, eq_not_iff_toNat]
  omega

/-- If the carry out is the complement of the carry in, the sum in SBC is `A + 256 * C`. -/
theorem addCarry_complement {a m : Byte} {c : Bool} (h : addCarry a m c = !c) :
    addCarry (addByte a m c) (~~~m) (!c) = c := by
  have ha := a.isLt
  have hm := m.isLt
  cases c with
  | false =>
    have hcarry : a.toNat + m.toNat + 0 > 255 := of_decide_eq_true h
    have hsum : (addByte a m false).toNat = (a.toNat + m.toNat + 0) % 256 := addByte_toNat a m false
    refine decide_eq_false ?_
    rw [addSum, hsum, complement_toNat, Bool.not_false, Bool.toNat_true]
    omega
  | true =>
    have hcarry : ¬ a.toNat + m.toNat + 1 > 255 := of_decide_eq_false h
    have hsum : (addByte a m true).toNat = (a.toNat + m.toNat + 1) % 256 := addByte_toNat a m true
    refine decide_eq_true ?_
    rw [addSum, hsum, complement_toNat, Bool.not_true, Bool.toNat_false]
    omega

/-- Settles O59: A comes back exactly when the carry into SBC is the complement of the carry into ADC
(`addByte_complement_eq_iff`), and then the carry comes back too. -/
theorem adcThenSbcRestores : Obligations.AdcThenSbcRestores := by
  intro s m hd
  refine ⟨⟨_, _, _, _, exec_clc s, exec_adcImm (by exact hd) m, exec_sec _, exec_sbcImm (by exact hd) m, ?_⟩,
    ⟨_, _, exec_adcImm hd m, exec_sbcImm (by exact hd) m, ?_⟩⟩
  · exact (addByte_complement_eq_iff s.a m false true).mpr rfl
  · refine ⟨fun ⟨ha, _⟩ => (addByte_complement_eq_iff _ _ _ _).mp ha, fun hc => ?_⟩
    refine ⟨(addByte_complement_eq_iff _ _ _ _).mpr hc, ?_⟩
    have hflip : addCarry s.a m s.p.c = !s.p.c := hc
    have hback := addCarry_complement hflip
    rwa [← hflip] at hback

end Sys2Proof.Machine
end

section
/-! What every step answers: which action it applies, and that none faults (spec/00_scope.md R6, spec/40_dispatcher.md
R112, spec/60_exceptions.md R270). -/

namespace Sys2Proof.Machine

/-- A step is one action: the driver's next one, or a tick when it lists none. -/
theorem step_eq_applyAction (s : State) :
    step s = applyAction (s.driver.headD .tick) { s with driver := s.driver.tail } := by
  cases hdriver : s.driver with
  | nil =>
    have hsame : { s with driver := [] } = s := by rw [← hdriver]
    rw [step_tick hdriver, List.headD_nil, List.tail_nil, applyAction_tick, hsame]
  | cons a rest => exact step_action hdriver

theorem retire_eq (i : Instr) (s : State) :
    retire i s = .next (if (effect i s).halted then effect i s else (effect i s).clearDecode) :=
  retire_next (exec_eq_effect i s)

theorem instructionTick_ne_fault (s : State) (f : Fault) : instructionTick s ≠ .fault f := by
  unfold instructionTick
  split
  · nofun
  · simp only [retire_eq]
    split <;> nofun

theorem tick_ne_fault (s : State) (f : Fault) : tick s ≠ .fault f := by
  unfold tick
  split
  · split
    · nofun
    · split
      · nofun
      · split
        · nofun
        · exact instructionTick_ne_fault s f
  · nofun

theorem applyAction_requestInterrupt_eq (kind : IntKind) (s : State) :
    applyAction (.requestInterrupt kind) s =
      if s.resetApplied then .next (s.requestInterrupt kind) else .refused .beforeFirstReset := rfl

theorem applyAction_ne_fault (a : Action) (s : State) (f : Fault) : applyAction a s ≠ .fault f := by
  cases a with
  | tick => exact tick_ne_fault s f
  | reset => nofun
  | requestInterrupt kind =>
    rw [applyAction_requestInterrupt_eq]
    split <;> nofun
  | driverWrite addr v => nofun

/-- An action that answers a next state: a tick that does, a reset, a request after one, or a driver's write. -/
theorem applyAction_cases {a : Action} {s t : State} (h : applyAction a s = .next t) :
    (a = .tick ∧ tick s = .next t) ∨ (a = .reset ∧ t = s.applyReset) ∨
    (∃ kind, a = .requestInterrupt kind ∧ s.resetApplied = true ∧ t = s.requestInterrupt kind) ∨
    (∃ addr v, a = .driverWrite addr v ∧ t = s.store addr v) := by
  cases a with
  | tick => exact .inl ⟨rfl, h⟩
  | reset =>
    injection h with h
    exact .inr (.inl ⟨rfl, h.symm⟩)
  | requestInterrupt kind =>
    rw [applyAction_requestInterrupt_eq] at h
    split at h
    · next hreset =>
      injection h with h
      exact .inr (.inr (.inl ⟨kind, rfl, hreset, h.symm⟩))
    · cases h
  | driverWrite addr v =>
    injection h with h
    exact .inr (.inr (.inr ⟨addr, v, rfl, h.symm⟩))

@[simp] theorem entryTick_resetApplied (kind : IntKind) (s : State) :
    (s.entryTick kind).resetApplied = s.resetApplied := by
  by_cases h : s.dec.cycleIndex + 1 = 7
  · rw [entryTick_commit kind h]
  · rw [entryTick_wait kind h]
    rfl

theorem effect_resetApplied (i : Instr) (s : State) : (effect i s).resetApplied = s.resetApplied := by
  obtain ⟨-, -, -, -, hreset, -⟩ := effect_keeps_control i s
  exact hreset

/-- After a reset a tick needs a valid opcode in flight, which the invariant gives. -/
theorem tick_progress {s : State} (hinv : s.Inv) (hreset : s.resetApplied = true) :
    ∃ t, tick s = .next t ∧ t.resetApplied = true := by
  cases hhalted : s.halted with
  | true => exact ⟨s, tick_halted hreset hhalted, hreset⟩
  | false =>
    cases hfetch : s.dec.fetchNext with
    | true => exact ⟨_, tick_boundary ⟨hreset, hhalted⟩ hfetch, by rw [boundaryTick_resetApplied, hreset]⟩
    | false =>
      cases hentry : s.dec.entryKind with
      | some kind =>
        exact ⟨_, tick_entry ⟨⟨hreset, hhalted⟩, hfetch, hentry⟩, by rw [entryTick_resetApplied, hreset]⟩
      | none =>
        obtain ⟨d, hd, -⟩ := hinv.inFlight hfetch hentry hhalted
        have hflight : s.InFlight d := ⟨⟨hreset, hhalted⟩, hfetch, hentry, hd⟩
        by_cases hretires : s.retiresNow d
        · refine ⟨_, (tick_inFlight_retire hflight hretires).trans (retire_eq _ _), ?_⟩
          rw [apply_ite State.resetApplied, State.clearDecode_resetApplied, ite_self, effect_resetApplied,
            spendCycle_resetApplied, hreset]
        · exact ⟨_, tick_inFlight_wait hflight hretires, by rw [spendCycle_resetApplied, hreset]⟩

/-- The invariant speaks of memory, the decode state and the halt only. -/
theorem State.Inv.congr {s t : State} (h : s.Inv) (hmem : t.mem.wf = true) (hdec : t.dec = s.dec)
    (hhalted : t.halted = s.halted) (hfault : t.fault = s.fault) : t.Inv where
  memory := hmem
  boundary := by
    rw [hdec]
    exact h.boundary
  entry := by
    rw [hdec, hhalted]
    exact h.entry
  inFlight := by
    rw [hdec, hhalted]
    exact h.inFlight
  ranges := by
    rw [hdec]
    exact h.ranges
  halt := by
    rw [hdec, hhalted, hfault]
    exact h.halt

theorem applyAction_progress (a : Action) {s : State} (hinv : s.Inv) (hreset : s.resetApplied = true) :
    ∃ t, applyAction a s = .next t ∧ t.resetApplied = true := by
  cases a with
  | tick => exact tick_progress hinv hreset
  | reset => exact ⟨_, applyAction_reset s, rfl⟩
  | requestInterrupt kind =>
    refine ⟨_, applyAction_requestInterrupt kind hreset, ?_⟩
    rw [State.requestInterrupt_eq, hreset]
  | driverWrite addr v => exact ⟨_, applyAction_driverWrite addr v s, hreset⟩

/-- Settles O55: `applyAction_progress` and `applyAction_ne_fault`, since a step is one action. -/
theorem everyStepAnswersANextState : Obligations.EveryStepAnswersANextState := by
  refine ⟨fun s hinv hreset => ?_, fun s f => ?_⟩
  · rw [step_eq_applyAction]
    exact applyAction_progress _ (hinv.congr hinv.memory rfl rfl rfl) hreset
  · rw [step_eq_applyAction]
    exact applyAction_ne_fault _ _ f

end Sys2Proof.Machine
end

section
/-! A tick that commits nothing, and the one way D becomes 1 (spec/20_memory.md R69, R70, spec/10_state.md R34). -/

namespace Sys2Proof.Machine

/-- A tick at a boundary accepts an interrupt or fetches an opcode, with the latches it leaves. -/
theorem boundaryTick_cases (s : State) :
    ∃ nmi irq, (∃ kind, s.boundaryTick = (s.withLatches nmi irq).acceptInterrupt kind) ∨
      s.boundaryTick = (s.withLatches nmi irq).fetchOpcode := by
  unfold State.boundaryTick
  split
  · exact ⟨false, s.irqPending, .inl ⟨.nmi, rfl⟩⟩
  · split
    · split
      · exact ⟨s.nmiPending, false, .inr rfl⟩
      · exact ⟨s.nmiPending, false, .inl ⟨.irq, rfl⟩⟩
    · exact ⟨s.nmiPending, s.irqPending, .inr rfl⟩

/-- PC and the halt after a tick at a boundary: unchanged, or those of the opcode fetch. -/
theorem boundaryTick_pc_halt (s : State) (hfetch : s.dec.fetchNext = true) :
    let t := s.boundaryTick
    (t.pc = s.pc ∨ t.pc = s.pc + 1) ∧
      ((t.halted = s.halted ∧ t.fault = s.fault) ∨
        (s.dec.fetchNext = true ∧ descriptor (s.mem.read s.pc) = none ∧ t.halted = true ∧
          t.fault = some (.invalidOpcode (s.mem.read s.pc) s.pc))) := by
  obtain ⟨nmi, irq, ⟨kind, h⟩ | h⟩ := boundaryTick_cases s
  · rw [h]
    exact ⟨.inl rfl, .inl ⟨rfl, rfl⟩⟩
  · rw [h]
    cases hd : descriptor (s.mem.read s.pc) with
    | some d =>
      rw [fetchOpcode_valid (s := s.withLatches nmi irq) hd]
      exact ⟨.inr rfl, .inl ⟨rfl, rfl⟩⟩
    | none =>
      rw [fetchOpcode_invalid (s := s.withLatches nmi irq) hd]
      exact ⟨.inr rfl, .inr ⟨hfetch, rfl, rfl, rfl⟩⟩

theorem fetchOperand_pc (size : Nat) (s : State) :
    (s.fetchOperand size).pc = s.pc ∨ (s.fetchOperand size).pc = s.pc + 1 := by
  unfold State.fetchOperand
  split
  · exact .inr rfl
  · exact .inl rfl

/-- Settles O56: of the five cases of a tick, the two that commit are excluded; the frame of each of the others
(`boundaryTick_frame`, `entryTick_wait`, `spendCycle_frame`) leaves PC and the halt to look at. -/
theorem quietTicksCommitNothing : Obligations.QuietTicksCommitNothing := by
  intro s t hdriver hstep hentry hretire
  have hnext : (s.pc + 1).toNat = (s.pc.toNat + 1) % 65536 := BitVec.toNat_add s.pc 1
  rw [step_tick hdriver] at hstep
  obtain ⟨-, -, rfl⟩ | ⟨-, hfetch, rfl⟩ | ⟨kind, hin, rfl⟩ | ⟨d, hflight, -, rfl⟩ | ⟨d, hflight, hnow, -⟩ :=
    tick_cases hstep
  · exact ⟨rfl, .inl rfl, .inl ⟨rfl, rfl⟩⟩
  · obtain ⟨hpc, hhalt⟩ := boundaryTick_pc_halt s hfetch
    exact ⟨boundaryTick_frame s, hpc.imp id fun h => (congrArg BitVec.toNat h).trans hnext, hhalt⟩
  · rw [entryTick_wait kind (hentry kind hin)]
    exact ⟨rfl, .inl rfl, .inl ⟨rfl, rfl⟩⟩
  · refine ⟨?_, ?_, ?_⟩
    · conv_lhs => rw [spendCycle_frame]
      rw [spendCycle_frame]
    · rw [spendCycle_pc]
      exact (fetchOperand_pc d.size s).imp id fun h => (congrArg BitVec.toNat h).trans hnext
    · rw [spendCycle_frame]
      exact .inl ⟨rfl, rfl⟩
  · exact absurd hnow (hretire d hflight)

/-- CLD clears D, and only PLP and RTI write it otherwise. -/
theorem effect_sets_d {i : Instr} {s : State} (hclear : s.p.d = false) (hset : (effect i s).p.d = true) :
    i.mnemonic = .plp ∨ i.mnemonic = .rti := by
  by_contra hneither
  have hcleared : (effect i s).p.d = false := by
    by_cases hcld : i.mnemonic = .cld
    · rw [effect, hcld]
      rfl
    · refine (effect_keeps_d s ?_).trans hclear
      simp [writesD, hcld, not_or.mp hneither]
  rw [hcleared] at hset
  cases hset

theorem opcode_plp {i : Instr} (h : i.mnemonic = .plp) : i.opcode = 0x28 := by
  cases i <;> cases h
  rfl

theorem opcode_rti {i : Instr} (h : i.mnemonic = .rti) : i.opcode = 0x40 := by
  cases i <;> cases h
  rfl

theorem build_opcode {opcode : Byte} {d : Descriptor} (h : descriptor opcode = some d) (op0 op1 : Byte) :
    (d.build op0 op1).opcode = opcode := by
  rw [Instr.opcode, encode_build h]
  obtain hs | hs | hs := descriptor_size h <;> rw [hs] <;> rfl

theorem entryTick_d (kind : IntKind) (s : State) : (s.entryTick kind).p.d = s.p.d := by
  by_cases h : s.dec.cycleIndex + 1 = 7
  · rw [entryTick_commit kind h]
  · rw [entryTick_wait kind h]
    rfl

/-- A tick that sets D retires PLP or RTI. -/
theorem tick_sets_d {s t : State} (h : tick s = .next t) (hclear : s.p.d = false) (hset : t.p.d = true) :
    ∃ d, s.InFlight d ∧ s.retiresNow d ∧ (s.dec.opcodeByte = 0x28 ∨ s.dec.opcodeByte = 0x40) := by
  have hne : t.p.d ≠ s.p.d := by rw [hclear, hset]; nofun
  obtain ⟨-, -, rfl⟩ | ⟨-, -, rfl⟩ | ⟨kind, -, rfl⟩ | ⟨d, -, -, rfl⟩ | ⟨d, hflight, hnow, hretire⟩ := tick_cases h
  · exact absurd rfl hne
  · exact absurd (by rw [boundaryTick_frame]) hne
  · exact absurd (entryTick_d kind s) hne
  · exact absurd (by rw [spendCycle_frame]) hne
  · refine ⟨d, hflight, hnow, ?_⟩
    obtain ⟨-, -, -, hd⟩ := hflight
    rw [retire_eq] at hretire
    injection hretire with ht
    have hspent : (s.spendCycle d).p.d = false := by rw [spendCycle_frame, hclear]
    have heffect : (effect (Descriptor.inFlight d (s.spendCycle d)) (s.spendCycle d)).p.d = true := by
      rw [← hset, ← ht, apply_ite State.p, State.clearDecode_p, ite_self]
    rw [← build_opcode hd]
    exact (effect_sets_d hspent heffect).imp opcode_plp opcode_rti

theorem applyAction_sets_d {a : Action} {s t : State} (h : applyAction a s = .next t) (hclear : s.p.d = false)
    (hset : t.p.d = true) :
    ∃ d, s.InFlight d ∧ s.retiresNow d ∧ (s.dec.opcodeByte = 0x28 ∨ s.dec.opcodeByte = 0x40) := by
  have hne : t.p.d ≠ s.p.d := by rw [hclear, hset]; nofun
  obtain ⟨-, htick⟩ | ⟨-, rfl⟩ | ⟨kind, -, -, rfl⟩ | ⟨addr, v, -, rfl⟩ := applyAction_cases h
  · exact tick_sets_d htick hclear hset
  · cases hset
  · exact absurd (by rw [State.requestInterrupt_eq]) hne
  · exact absurd rfl hne

/-- The latched extra cycles after a tick of an instruction in flight (R117). -/
theorem spendCycle_extra (d : Descriptor) (s : State) :
    (s.spendCycle d).dec.extra =
      if s.dec.cycleIndex + 1 = d.baseCycles then extraCycles d (s.fetchOperand d.size).countCycle
      else s.dec.extra := by
  have hextra : (s.fetchOperand d.size).dec.extra = s.dec.extra := by rw [fetchOperand_frame]
  rw [← fetchOperand_cycleIndex d.size s, ← hextra, State.spendCycle, State.latchExtra,
    apply_ite (fun t : State => t.dec.extra)]
  rfl

/-- The state with the driver's list replaced. -/
def State.withDriver (driver : List Action) (s : State) : State := { s with driver := driver }

theorem fetchOperand_withDriver (driver : List Action) (size : Nat) (s : State) :
    (s.withDriver driver).fetchOperand size = (s.fetchOperand size).withDriver driver := by
  rw [State.fetchOperand, State.fetchOperand, apply_ite (State.withDriver driver)]
  rfl

/-- The coming tick of an instruction does not read the driver's list. -/
theorem retiresNow_withDriver (driver : List Action) (s : State) (d : Descriptor) :
    (s.withDriver driver).retiresNow d ↔ s.retiresNow d := by
  have hextra : ((s.withDriver driver).spendCycle d).dec.extra = (s.spendCycle d).dec.extra := by
    rw [spendCycle_extra, spendCycle_extra, fetchOperand_withDriver]
    rfl
  rw [State.retiresNow, hextra]
  rfl

/-- Settles O57: a step is one action, and only a tick that retires PLP or RTI sets D (`applyAction_sets_d`); taking the
action off the driver's list changes nothing in flight. -/
theorem decimalFlagIsSetOnlyByPulls : Obligations.DecimalFlagIsSetOnlyByPulls := by
  intro s t hstep hclear hset
  rw [step_eq_applyAction] at hstep
  obtain ⟨d, hflight, hnow, hopcode⟩ := applyAction_sets_d hstep hclear hset
  exact ⟨d, hflight, (retiresNow_withDriver s.driver.tail s d).mp hnow, hopcode⟩

end Sys2Proof.Machine
end

section
/-! The invariant of the dispatcher (spec/40_dispatcher.md R120) is kept by every action. -/

namespace Sys2Proof.Machine

theorem extraCycles_le (d : Descriptor) (s : State) : extraCycles d s ≤ maxExtra d.penalty := by
  unfold extraCycles
  cases d.penalty with
  | none => exact le_rfl
  | page =>
    dsimp only [maxExtra]
    split
    · exact Bool.toNat_le _
    · exact Bool.toNat_le _
    · exact Bool.toNat_le _
    all_goals exact Nat.zero_le 1
  | branch c =>
    dsimp only [maxExtra]
    split
    · split <;> decide
    · decide

theorem maxExtra_le_two (penalty : Penalty) : maxExtra penalty ≤ 2 := by
  cases penalty with
  | none => decide
  | page => decide
  | branch c => exact le_rfl

/-- At a boundary, not halted. -/
theorem inv_of_boundary {s : State} (hmem : s.mem.wf = true) (hdec : s.dec = DecodeState.boundary)
    (hhalted : s.halted = false) (hfault : s.fault = none) : s.Inv where
  memory := hmem
  boundary := fun _ => hdec
  entry := by
    rw [hdec]
    nofun
  inFlight := by
    rw [hdec]
    nofun
  ranges := by
    rw [hdec]
    decide
  halt := by
    rw [hhalted, hfault]
    exact ⟨rfl, nofun⟩

/-- Settles O10: the state after reset is at a boundary, over a memory that lists nothing. -/
theorem resetStateMeetsInvariant : Obligations.ResetStateMeetsInvariant :=
  inv_of_boundary reset_mem_wf rfl rfl rfl

theorem State.Inv.fault_eq_none {s : State} (h : s.Inv) (hhalted : s.halted = false) : s.fault = none := by
  obtain ⟨hsome, -⟩ := h.halt
  rw [hhalted] at hsome
  cases hfault : s.fault with
  | none => rfl
  | some f =>
    rw [hfault] at hsome
    cases hsome

/-- An entry in flight. -/
theorem entering_inv {s : State} (hmem : s.mem.wf = true) (hhalted : s.halted = false) (hfault : s.fault = none)
    (kind : IntKind) {cycles : Nat} (hone : 1 ≤ cycles) (hseven : cycles < 7) : (s.entering kind cycles).Inv where
  memory := hmem
  boundary := nofun
  entry := fun _ _ => ⟨rfl, hone, hseven, hhalted⟩
  inFlight := nofun
  ranges := ⟨hseven.le, Nat.zero_le 2⟩
  halt := by
    refine ⟨?_, fun h => absurd h (hhalted ▸ Bool.false_ne_true)⟩
    rw [State.entering, hhalted, hfault]
    rfl

/-- A core that halted with an instruction in flight. -/
theorem inv_of_halted {s : State} (hmem : s.mem.wf = true) (hfetch : s.dec.fetchNext = false)
    (hentry : s.dec.entryKind = none) (hranges : s.dec.cycleIndex ≤ 7 ∧ s.dec.extra ≤ 2) (hhalted : s.halted = true)
    (hfault : s.fault.isSome = true) : s.Inv where
  memory := hmem
  boundary := by
    rw [hfetch]
    nofun
  entry := by
    rw [hentry]
    nofun
  inFlight := fun _ _ h => absurd h (hhalted ▸ nofun)
  ranges := hranges
  halt := ⟨hhalted.trans hfault.symm, fun _ => ⟨hfetch, hentry⟩⟩

/-- The opcode fetch from a boundary: an instruction in flight with one cycle spent, or a halted core. -/
theorem fetchOpcode_inv {s : State} (hmem : s.mem.wf = true) (hdec : s.dec = DecodeState.boundary)
    (hhalted : s.halted = false) (hfault : s.fault = none) : s.fetchOpcode.Inv := by
  cases hd : descriptor (s.mem.read s.pc) with
  | none =>
    rw [fetchOpcode_invalid hd, hdec]
    exact inv_of_halted hmem rfl rfl ⟨(by decide : 1 ≤ 7), Nat.zero_le 2⟩ rfl rfl
  | some d =>
    obtain ⟨hone, hsize, htwo, -⟩ := descriptor_bounds hd
    rw [fetchOpcode_valid hd, hdec]
    exact {
      memory := hmem
      boundary := nofun
      entry := nofun
      inFlight := fun _ _ _ => ⟨d, hd, hone, le_rfl, htwo, Nat.zero_le _, fun _ => rfl, fun _ => rfl, fun _ => rfl⟩
      ranges := ⟨(by decide : 1 ≤ 7), Nat.zero_le 2⟩
      halt := by
        rw [hhalted, hfault]
        exact ⟨rfl, nofun⟩ }

theorem boundaryTick_inv {s : State} (hinv : s.Inv) (hhalted : s.halted = false) (hfetch : s.dec.fetchNext = true) :
    s.boundaryTick.Inv := by
  have hdec := hinv.boundary hfetch
  have hfault := hinv.fault_eq_none hhalted
  obtain ⟨nmi, irq, ⟨kind, h⟩ | h⟩ := boundaryTick_cases s
  · rw [h, acceptInterrupt_atBoundary (s := s.withLatches nmi irq) kind hdec]
    exact entering_inv (s := s.withLatches nmi irq) hinv.memory hhalted hfault kind le_rfl (by decide)
  · rw [h]
    exact fetchOpcode_inv (s := s.withLatches nmi irq) hinv.memory hdec hhalted hfault

theorem State.entryMemory_wf {s : State} (h : s.mem.wf = true) (stackedP : Byte) :
    (s.entryMemory stackedP).wf = true :=
  State.push_wf stackedP _ (State.pushWord_wf s.pc s h)

theorem entryTick_inv {s : State} {kind : IntKind} (hinv : s.Inv) (hentry : s.InEntry kind) :
    (s.entryTick kind).Inv := by
  obtain ⟨⟨-, hhalted⟩, hfetch, hkind⟩ := hentry
  have hfault := hinv.fault_eq_none hhalted
  obtain ⟨-, -, hseven, -⟩ := hinv.entry kind hkind
  by_cases hlast : s.dec.cycleIndex + 1 = 7
  · rw [entryTick_commit kind hlast]
    exact inv_of_boundary (State.entryMemory_wf hinv.memory _) rfl hhalted hfault
  · have hcount : s.dec.cycleIndex + 1 < 7 := lt_of_le_of_ne hseven hlast
    rw [entryTick_wait kind hlast]
    exact {
      memory := hinv.memory
      boundary := fun h => absurd h (hfetch ▸ nofun)
      entry := fun _ _ => ⟨hfetch, Nat.le_add_left 1 _, hcount, hhalted⟩
      inFlight := fun _ h => absurd (hkind.symm.trans h) nofun
      ranges := ⟨hcount.le, hinv.ranges.2⟩
      halt := hinv.halt }

/-- The counters and operand bytes after a tick of an instruction in flight: the clause of the invariant but for the
count's completion, which the tick decides. -/
theorem spendCycle_inFlight {s : State} {d : Descriptor} (hinv : s.Inv) (hflight : s.InFlight d) :
    s.dec.cycleIndex + 1 ≤ d.baseCycles + (s.spendCycle d).dec.extra ∧
      (s.spendCycle d).dec.extra ≤ maxExtra d.penalty ∧
      (s.dec.cycleIndex + 1 < d.baseCycles → (s.spendCycle d).dec.extra = 0) ∧
      (d.size < 2 → (s.spendCycle d).dec.op0 = 0) ∧ (d.size < 3 → (s.spendCycle d).dec.op1 = 0) := by
  obtain ⟨⟨-, hhalted⟩, hfetch, hentry, hd⟩ := hflight
  obtain ⟨d', hd', -, hone, hcount, hmax, hunlatched, hop0, hop1⟩ := hinv.inFlight hfetch hentry hhalted
  obtain rfl : d' = d := Option.some.inj (hd'.symm.trans hd)
  have hextra := extraCycles_le d' (s.fetchOperand d'.size).countCycle
  rw [spendCycle_extra, spendCycle_op0, spendCycle_op1]
  refine ⟨?_, ?_, ?_, fun hs => ?_, fun hs => ?_⟩
  · split <;> omega
  · split <;> omega
  · intro hlt
    rw [if_neg hlt.ne]
    exact hunlatched (by omega)
  · rw [fetchOperand_done (by omega)]
    exact hop0 hs
  · by_cases hdone : d'.size ≤ s.dec.cycleIndex
    · rw [fetchOperand_done hdone]
      exact hop1 hs
    · rw [fetchOperand_first (by omega) (by omega)]
      exact hop1 hs

theorem spendCycle_ranges {s : State} {d : Descriptor} (hinv : s.Inv) (hflight : s.InFlight d) :
    (s.spendCycle d).dec.cycleIndex ≤ 7 ∧ (s.spendCycle d).dec.extra ≤ 2 := by
  obtain ⟨hcount, hmax, -⟩ := spendCycle_inFlight hinv hflight
  obtain ⟨-, -, -, hd⟩ := hflight
  obtain ⟨-, -, -, hseven⟩ := descriptor_bounds hd
  have htwo := maxExtra_le_two d.penalty
  rw [spendCycle_cycleIndex]
  omega

@[simp] theorem spendCycle_fetchNext (d : Descriptor) (s : State) :
    (s.spendCycle d).dec.fetchNext = s.dec.fetchNext := by rw [spendCycle_dec_frame]

@[simp] theorem spendCycle_halted (d : Descriptor) (s : State) : (s.spendCycle d).halted = s.halted := by
  rw [spendCycle_frame]

@[simp] theorem spendCycle_fault (d : Descriptor) (s : State) : (s.spendCycle d).fault = s.fault := by
  rw [spendCycle_frame]

@[simp] theorem spendCycle_mem (d : Descriptor) (s : State) : (s.spendCycle d).mem = s.mem := by
  rw [spendCycle_frame]

/-- The tick that waits. -/
theorem spendCycle_inv {s : State} {d : Descriptor} (hinv : s.Inv) (hflight : s.InFlight d)
    (hwait : ¬ s.retiresNow d) : (s.spendCycle d).Inv := by
  obtain ⟨hcount, hmax, hunlatched, hop0, hop1⟩ := spendCycle_inFlight hinv hflight
  have hranges := spendCycle_ranges hinv hflight
  obtain ⟨⟨-, hhalted⟩, hfetch, hentry, hd⟩ := hflight
  obtain ⟨hone, -⟩ := descriptor_bounds hd
  have hlt : s.dec.cycleIndex + 1 < d.baseCycles + (s.spendCycle d).dec.extra := lt_of_le_of_ne hcount hwait
  rw [← spendCycle_cycleIndex d s] at hlt hunlatched
  have hspent : 1 ≤ (s.spendCycle d).dec.cycleIndex := by
    rw [spendCycle_cycleIndex]
    exact Nat.le_add_left 1 _
  exact {
    memory := (spendCycle_mem d s).symm ▸ hinv.memory
    boundary := by
      rw [spendCycle_fetchNext, hfetch]
      nofun
    entry := by
      rw [spendCycle_entryKind, hentry]
      nofun
    inFlight := by
      rw [spendCycle_opcodeByte]
      exact fun _ _ _ => ⟨d, hd, hone, hspent, hlt, hmax, hunlatched, hop0, hop1⟩
    ranges := hranges
    halt := by
      rw [spendCycle_halted, spendCycle_fault, spendCycle_fetchNext, spendCycle_entryKind]
      exact hinv.halt }

theorem effect_wf (i : Instr) {s : State} (h : s.mem.wf = true) : (effect i s).mem.wf = true := by
  obtain ⟨cells, -, hmem⟩ := effect_mem i s
  rw [hmem]
  exact Memory.writeAll_wf cells s.mem h

theorem effect_dec (i : Instr) (s : State) : (effect i s).dec = s.dec := exec_dec (exec_eq_effect i s)

theorem addUnlessDecimal_halted_eq (i : Instr) (m : Byte) {s : State} (h : s.halted = s.fault.isSome) :
    (s.addUnlessDecimal i m).halted = (s.addUnlessDecimal i m).fault.isSome := by
  cases hd : s.p.d with
  | false =>
    rw [addUnlessDecimal_of_binary hd]
    exact h
  | true =>
    rw [addUnlessDecimal_of_decimal hd]
    rfl

/-- An instruction that halts the core records a fault, and one that does not leaves none. -/
theorem effect_halted_eq (i : Instr) {s : State} (h : s.halted = s.fault.isSome) :
    (effect i s).halted = (effect i s).fault.isSome := by
  unfold effect
  cases hm : i.mnemonic
  case adc | sbc => exact addUnlessDecimal_halted_eq i _ h
  case sed => rfl
  all_goals exact h

/-- The tick that retires: a boundary again, or a halted core with its decode state as it was. -/
theorem retire_inv {s t : State} {d : Descriptor} (hinv : s.Inv) (hflight : s.InFlight d)
    (h : retire (Descriptor.inFlight d (s.spendCycle d)) (s.spendCycle d) = .next t) : t.Inv := by
  have hranges := spendCycle_ranges hinv hflight
  obtain ⟨-, hfetch, hentry, -⟩ := hflight
  obtain ⟨hsome, -⟩ := hinv.halt
  rw [← spendCycle_halted d s, ← spendCycle_fault d s] at hsome
  rw [← spendCycle_fetchNext d s] at hfetch
  rw [← spendCycle_entryKind d s] at hentry
  have hmem : (s.spendCycle d).mem.wf = true := (spendCycle_mem d s).symm ▸ hinv.memory
  generalize s.spendCycle d = u at *
  generalize Descriptor.inFlight d u = i at *
  have hfault := effect_halted_eq i hsome
  rw [retire_eq] at h
  injection h with h
  subst h
  split
  · next hhalted =>
    rw [← effect_dec i u] at hranges hfetch hentry
    exact inv_of_halted (effect_wf i hmem) hfetch hentry hranges hhalted (hfault ▸ hhalted)
  · next hruns =>
    have hrunning := Bool.eq_false_iff.mpr hruns
    rw [hrunning] at hfault
    exact inv_of_boundary (effect_wf i hmem) rfl hrunning
      (Option.isNone_iff_eq_none.mp (Option.isSome_eq_false_iff.mp hfault.symm))

theorem tick_inv {s t : State} (hinv : s.Inv) (h : tick s = .next t) : t.Inv := by
  obtain ⟨-, -, rfl⟩ | ⟨⟨-, hhalted⟩, hfetch, rfl⟩ | ⟨kind, hin, rfl⟩ | ⟨d, hflight, hwait, rfl⟩ |
    ⟨d, hflight, -, hretire⟩ := tick_cases h
  · exact hinv
  · exact boundaryTick_inv hinv hhalted hfetch
  · exact entryTick_inv hinv hin
  · exact spendCycle_inv hinv hflight hwait
  · exact retire_inv hinv hflight hretire

theorem applyAction_inv {a : Action} {s t : State} (hinv : s.Inv) (h : applyAction a s = .next t) : t.Inv := by
  obtain ⟨-, htick⟩ | ⟨-, rfl⟩ | ⟨kind, -, -, rfl⟩ | ⟨addr, v, -, rfl⟩ := applyAction_cases h
  · exact tick_inv hinv htick
  · exact inv_of_boundary hinv.memory rfl rfl rfl
  · rw [State.requestInterrupt_eq]
    exact hinv.congr hinv.memory rfl rfl rfl
  · exact hinv.congr (State.store_wf addr v s hinv.memory) (State.store_dec addr v s) (State.store_halted addr v s)
      (State.store_fault addr v s)

/-- Settles O54: a step is one action, and each of the four keeps the invariant (`applyAction_inv`). -/
theorem everyStepKeepsInvariant : Obligations.EveryStepKeepsInvariant := by
  intro s t hinv hstep
  rw [step_eq_applyAction] at hstep
  have hnext : (s.withDriver s.driver.tail).Inv := hinv.congr hinv.memory rfl rfl rfl
  exact applyAction_inv hnext hstep

end Sys2Proof.Machine
end

section
/-! A whole instruction from its boundary, tick by tick (spec/40_dispatcher.md R112 to R118). -/

namespace Sys2Proof.Machine

/-- The instruction at PC in flight with its first `n` bytes fetched. -/
def State.bytesFetched (n cycles extra : Nat) (s : State) : State :=
  { s with
    pc := s.pc + BitVec.ofNat 16 n
    dec := {
      opcodeByte := s.mem.read s.pc
      op0 := if 2 ≤ n then s.mem.read (s.pc + 1) else 0
      op1 := if 3 ≤ n then s.mem.read (s.pc + 2) else 0
      cycleIndex := cycles
      fetchNext := false
      extra := extra
      entryKind := none } }

/-- The instruction at PC after `cycles` of its ticks: a byte is fetched on each tick until all are, and the extra
cycles are latched from the tick of R117 on. -/
def State.afterTicks (d : Descriptor) (extra cycles : Nat) (s : State) : State :=
  s.bytesFetched (min cycles d.size) cycles (if cycles < d.baseCycles then 0 else extra)

theorem word_add_ofNat_succ (w : Word) (n : Nat) : w + BitVec.ofNat 16 n + 1 = w + BitVec.ofNat 16 (n + 1) := by
  rw [BitVec.ofNat_add, add_assoc]
  rfl

/-- The operand fetch takes the next byte, until all are fetched (R115). -/
theorem fetchOperand_bytesFetched (s : State) {size cycles : Nat} (extra : Nat) (hcycles : 1 ≤ cycles)
    (hsize : size ≤ 3) :
    (s.bytesFetched (min cycles size) cycles extra).fetchOperand size =
      s.bytesFetched (min (cycles + 1) size) cycles extra := by
  by_cases hdone : size ≤ cycles
  · rw [fetchOperand_done hdone, min_eq_right hdone, min_eq_right (Nat.le_succ_of_le hdone)]
  · obtain rfl | rfl : cycles = 1 ∨ cycles = 2 := by omega
    · have hn : min (1 + 1) size = 2 := by omega
      rw [fetchOperand_first rfl (by omega), hn, show min 1 size = 1 by omega]
      simp only [State.bytesFetched, word_add_ofNat_succ]
      rfl
    · have hn : min (2 + 1) size = 3 := by omega
      rw [fetchOperand_second rfl (by omega), hn, show min 2 size = 2 by omega]
      simp only [State.bytesFetched, word_add_ofNat_succ]
      rfl

section
variable {s : State} {d : Descriptor} (hd : descriptor (s.mem.read s.pc) = some d)
include hd

/-- The first tick. -/
theorem fetchOpcode_eq_afterTicks (extra : Nat) (hdec : s.dec = DecodeState.boundary) :
    s.fetchOpcode = s.afterTicks d extra 1 := by
  obtain ⟨hone, -, htwo, -⟩ := descriptor_bounds hd
  rw [fetchOpcode_valid hd, hdec, State.afterTicks, min_eq_left hone, if_pos (by omega)]
  rfl

theorem afterTicks_inFlight (h : s.Running) (extra cycles : Nat) : (s.afterTicks d extra cycles).InFlight d :=
  ⟨h, rfl, rfl, hd⟩

variable {extra cycles : Nat} (hextra : extraCycles d (s.bytesFetched d.size d.baseCycles 0) = extra)
  (hcycles : 1 ≤ cycles)
include hextra hcycles

/-- Every tick after the first. The predicate is read on the tick where the count reaches `base_cycles` (R117, D4), by
which all bytes are fetched. -/
theorem spendCycle_afterTicks : (s.afterTicks d extra cycles).spendCycle d = s.afterTicks d extra (cycles + 1) := by
  obtain ⟨-, hsize, -, -⟩ := descriptor_bounds hd
  have hthree : d.size ≤ 3 := by obtain h | h | h := descriptor_size hd <;> omega
  have hfetched := fetchOperand_bytesFetched s (if cycles < d.baseCycles then 0 else extra) hcycles hthree
  have hcount : (s.afterTicks d extra cycles).dec.cycleIndex = cycles := rfl
  have hkept : (s.afterTicks d extra cycles).dec.extra = if cycles < d.baseCycles then 0 else extra := rfl
  have hlatched : ((s.afterTicks d extra cycles).spendCycle d).dec.extra =
      if cycles + 1 < d.baseCycles then 0 else extra := by
    rw [spendCycle_extra, hcount, hkept]
    obtain hlt | heq | hgt := Nat.lt_trichotomy (cycles + 1) d.baseCycles
    · rw [if_neg hlt.ne, if_pos (by omega), if_pos hlt]
    · rw [if_pos heq, if_neg (by omega), State.afterTicks, hfetched, if_pos (by omega), heq, min_eq_right hsize,
        ← hextra, ← heq]
      rfl
    · rw [if_neg hgt.ne', if_neg (by omega), if_neg (by omega)]
  rw [spendCycle_eq_fetchOperand, hlatched, State.afterTicks, hfetched]
  rfl

theorem retiresNow_afterTicks :
    (s.afterTicks d extra cycles).retiresNow d ↔ cycles + 1 = d.baseCycles + extra := by
  have hretires : (s.afterTicks d extra cycles).retiresNow d ↔
      cycles + 1 = d.baseCycles + if cycles + 1 < d.baseCycles then 0 else extra := by
    rw [State.retiresNow, spendCycle_afterTicks hd hextra hcycles]
    rfl
  rw [hretires]
  split <;> omega

omit hcycles

/-- The ticks up to the last one. -/
theorem run_afterTicks (hrun : s.Running) (hdriver : s.driver = []) (n cycles : Nat) (hcycles : 1 ≤ cycles)
    (hn : cycles + n < d.baseCycles + extra) :
    Host.Core.run Sys2Proof.core n (s.afterTicks d extra cycles) = .next (s.afterTicks d extra (cycles + n)) := by
  induction n generalizing cycles with
  | zero => rfl
  | succ n ih =>
    have hwait : ¬ (s.afterTicks d extra cycles).retiresNow d := by
      rw [retiresNow_afterTicks hd hextra hcycles]
      omega
    have hstep : step (s.afterTicks d extra cycles) = .next (s.afterTicks d extra (cycles + 1)) := by
      rw [step_tick (s := s.afterTicks d extra cycles) hdriver,
        tick_inFlight_wait (afterTicks_inFlight hd hrun extra cycles) hwait, spendCycle_afterTicks hd hextra hcycles]
    rw [core_run_next n hstep, ih (cycles + 1) (by omega) (by omega), Nat.add_right_comm]
    rfl

end

/-- The operand bytes of an instruction that a slot builds: those it has, and 0 for the others. -/
theorem build_op0_op1 {opcode : Byte} {d : Descriptor} (hd : descriptor opcode = some d) (op0 op1 : Byte) :
    (d.build op0 op1).op0 = (if 2 ≤ d.size then op0 else 0) ∧
      (d.build op0 op1).op1 = (if 3 ≤ d.size then op1 else 0) := by
  rw [Instr.op0, Instr.op1, encode_build hd]
  obtain hs | hs | hs := descriptor_size hd <;> rw [hs] <;> exact ⟨rfl, rfl⟩

/-- The state with every byte fetched is that of the instruction that the bytes decode to. -/
theorem bytesFetched_eq_fetched {s : State} {d : Descriptor} (hd : descriptor (s.mem.read s.pc) = some d)
    (cycles extra : Nat) :
    s.bytesFetched d.size cycles extra =
      s.fetched (d.build (s.mem.read (s.pc + 1)) (s.mem.read (s.pc + 2))) cycles extra := by
  obtain ⟨hop0, hop1⟩ := build_op0_op1 hd (s.mem.read (s.pc + 1)) (s.mem.read (s.pc + 2))
  rw [State.fetched, build_opcode hd, hop0, hop1, Instr.size, build_mode hd]
  rfl

/-- An instruction that a slot builds is built back from its own operand bytes. -/
theorem build_self {opcode : Byte} {d : Descriptor} (hd : descriptor opcode = some d) (op0 op1 : Byte) :
    d.build (d.build op0 op1).op0 (d.build op0 op1).op1 = d.build op0 op1 := by
  obtain ⟨d', hd', hbuild, -⟩ := Laws.Slots.statement (d.build op0 op1)
  rw [build_opcode hd] at hd'
  obtain rfl : d = d' := Option.some.inj (hd.symm.trans hd')
  exact hbuild

/-- After the last tick but for the execute action. -/
theorem afterTicks_eq_fetched {s : State} {d : Descriptor} (hd : descriptor (s.mem.read s.pc) = some d) (extra : Nat) :
    s.afterTicks d extra (d.baseCycles + extra) =
      s.fetched (d.build (s.mem.read (s.pc + 1)) (s.mem.read (s.pc + 2))) (d.baseCycles + extra) extra := by
  obtain ⟨-, hsize, -⟩ := descriptor_bounds hd
  rw [State.afterTicks, min_eq_right (by omega), if_neg (by omega), bytesFetched_eq_fetched hd]

/-- Settles O22: the first tick fetches the opcode, `run_afterTicks` goes to the tick before the last, and the last one
retires the instruction from the state with every byte fetched. -/
theorem wholeInstructionTakesItsTicks : Obligations.WholeInstructionTakesItsTicks := by
  intro s i rest d u hs hdriver hnmi hirq hdecode hd extra hexec
  obtain ⟨hrun, hdec⟩ := id hs
  obtain ⟨-, -, htwo, -⟩ := descriptor_bounds hd
  obtain rfl : i = d.build (s.mem.read (s.pc + 1)) (s.mem.read (s.pc + 2)) := by
    rw [decode_three hd] at hdecode
    cases hdecode
    rfl
  have hextra : extraCycles d (s.bytesFetched d.size d.baseCycles 0) = extra := by rw [bytesFetched_eq_fetched hd]
  obtain ⟨n, hn⟩ : ∃ n, d.baseCycles + extra = 1 + n + 1 := ⟨d.baseCycles + extra - 2, by omega⟩
  have hfirst : step s = .next (s.afterTicks d extra 1) := by
    rw [step_tick hdriver, tick_atBoundary hs, boundaryTick_quiet hnmi hirq, fetchOpcode_eq_afterTicks hd extra hdec]
  have hticks := run_afterTicks hd hextra hrun hdriver n 1 le_rfl (by omega)
  have hlast : step (s.afterTicks d extra (1 + n)) = .next (if u.halted then u else u.clearDecode) := by
    have hone := Nat.le_add_right 1 n
    have hnow := (retiresNow_afterTicks hd hextra hone).mpr hn.symm
    have hbuilt := build_self hd (s.mem.read (s.pc + 1)) (s.mem.read (s.pc + 2))
    rw [step_tick (s := s.afterTicks d extra (1 + n)) hdriver,
      tick_inFlight_retire (afterTicks_inFlight hd hrun extra _) hnow, spendCycle_afterTicks hd hextra hone, ← hn,
      afterTicks_eq_fetched hd]
    exact (congrArg (retire · _) hbuilt).trans (retire_next hexec)
  rw [hn, Nat.add_comm 1 n, core_run_next _ hfirst, core_run_add n 1 hticks, core_run_next 0 hlast]
  rfl

end Sys2Proof.Machine
end
